-- ==== Sys2Proof/Word.lean ====
section
/-! DEFINITION. The word types of the KS-620 model: link bytes, two-byte request fields, show-clock
values, and the small index types that the manual numbers (stations, privilege levels, lines, ...). -/

namespace Sys2Proof

/-- A byte of the desk link or of the configuration image. -/
abbrev Byte := BitVec 8

/-- A two-byte request field (a selector, a level, a fade time) as it stands in a frame. -/
abbrev Half := BitVec 16

/-- A show-clock value or a due time: 10 ms ticks in 32 bits, wrapping (R25). -/
abbrev Clock := BitVec 32

/-- A station number 0..15 (R1). -/
abbrev Station := Fin 16

/-- A privilege level 0..3; 0 is the most trusted (the scope file's glossary). -/
abbrev Level := Fin 4

/-- A set of loudspeaker circuit outputs: bit k for output k (R187). -/
abbrev CircuitSet := BitVec 16

/-- A set of dimmer channel outputs: bit k for output k (R187). -/
abbrev ChannelSet := BitVec 48

end Sys2Proof
end

