-- ==== Sys2Proof/Machine/Bytes.lean ====
section
/-! DEFINITION. Byte order and the CRC: the encodings of R187 that need no record of the model (numbers high
byte first, presence bytes, lists with a count) and the CRC-16 of R182. -/

namespace Sys2Proof.Machine

/-- R187: a number of one byte. -/
def be1 (n : Nat) : List Byte := [BitVec.ofNat 8 n]

/-- R187: a number of two bytes, high byte first. -/
def be2 (n : Nat) : List Byte := [BitVec.ofNat 8 (n / 256), BitVec.ofNat 8 n]

/-- R187: a number of four bytes, high byte first. -/
def be4 (n : Nat) : List Byte :=
  [BitVec.ofNat 8 (n / 16777216), BitVec.ofNat 8 (n / 65536), BitVec.ofNat 8 (n / 256), BitVec.ofNat 8 n]

/-- R187: a clock value, due time or expiry. -/
def clockBytes (c : Clock) : List Byte := be4 c.toNat

/-- R187: yes/no, on/off and the like. -/
def flagByte (b : Bool) : List Byte := [if b then 1 else 0]

/-- R187: an optional field: a presence byte, then the field, or `width` bytes of 0 when it is absent. -/
def optional {α : Type} (width : Nat) (f : α → List Byte) : Option α → List Byte
  | some a => 1 :: f a
  | none => 0 :: List.replicate width 0

/-- R187: a list: a count byte, then the items. -/
def counted {α : Type} (f : α → List Byte) (l : List α) : List Byte := be1 l.length ++ l.flatMap f

/-- The two bytes of a two-byte field, high byte first. -/
def halfBytes (x : Half) : List Byte := be2 x.toNat

/-- A two-byte field from its bytes, high byte first. -/
def halfOf (a b : Byte) : Half := a ++ b

/-- A four-byte value from its bytes, high byte first. -/
def clockOf (a b c d : Byte) : Clock := (a ++ b) ++ (c ++ d)

/-- Groups bytes into two-byte fields; none when a byte is left over. -/
def halvesOf : List Byte → Option (List Half)
  | [] => some []
  | [_] => none
  | a :: b :: rest => (halvesOf rest).map (halfOf a b :: ·)

/-- R182: one bit of the CRC register, polynomial x^16 + x^12 + x^5 + 1. -/
def crcBit (r : Half) : Half := if r.msb then (r <<< 1) ^^^ 0x1021#16 else r <<< 1

/-- R182: one byte, most significant bit first. -/
def crcByte (r : Half) (b : Byte) : Half :=
  crcBit (crcBit (crcBit (crcBit (crcBit (crcBit (crcBit (crcBit (r ^^^ (b.zeroExtend 16 <<< 8)))))))))

/-- R182: the CRC-16 over a run of bytes, the register starting at FFFFh, no inversion. -/
def crc16 (l : List Byte) : Half := l.foldl crcByte 0xFFFF#16

end Sys2Proof.Machine
end

