-- ==== Sys2Proof/Syntax.lean ====
section
/-! DEFINITION. The commands of the KS-620: one constructor of `Instr` for each row of
spec/opcode_table.json. A request row carries its header (station and tag, R181) and its parameters in
the order of R197; an event row carries what the outside, or the block that sends a notice, brings
with it. -/

namespace Sys2Proof

/-- The station and the tag of a request frame (R181). -/
structure Hdr where
  station : Station
  tag : Byte
  deriving DecidableEq, Repr

/-- The kind of a movement record (R48). -/
inductive MoveKind where
  | testLower | raise | fire | manual
  deriving DecidableEq, Repr

/-- The outcome of a closed movement record (R48). -/
inductive MoveOutcome where
  | complete | fault | aborted | blocked
  deriving DecidableEq, Repr

/-- The commands, one constructor per row of spec/opcode_table.json. -/
inductive Instr where
  -- reset, image load and desk link
  | powerOnReset
  | resetEnd (lr : Fin 4) (img : Bool) (position : Half) (top bottom settingClear driveReady : Bool)
  | imageLoadEnd (read : Option (List Byte))
  | loadTimeout
  | frameReceived (byte : Byte)
  | lengthByteInvalid (byte : Byte)
  | frameTimeout
  | takeItem
  | unknownRequestCode (h : Hdr) (code : Byte) (params : List Byte)
  | transmitStart
  | restartReset
  -- requests: status, Authority Unit
  | status (h : Hdr)
  | describe (h : Hdr)
  | useGate (h : Hdr) (gate : Half)
  | resetEnable (h : Hdr) (action : Byte)
  | readObject (h : Hdr) (object : Half)
  | readStation (h : Hdr) (number : Byte)
  -- Show Sequencer
  | setClock (h : Hdr) (value : Clock)
  | prepare (h : Hdr)
  | openHouse (h : Hdr)
  | beginAct (h : Hdr)
  | beginInterval (h : Hdr) (minutes : Byte) (script : Half)
  | extendInterval (h : Hdr) (minutes : Byte)
  | closeHouse (h : Hdr)
  | goDark (h : Hdr)
  | intervalDue
  -- Curtain Controller
  | lower (h : Hdr) (curtain : Half)
  | permitRaise (h : Hdr)
  | raise (h : Hdr) (curtain : Half)
  | hold (h : Hdr) (curtain : Half)
  | resume (h : Hdr) (curtain : Half)
  | clearFault (h : Hdr)
  | releaseLock (h : Hdr)
  | readMovements (h : Hdr)
  | permitExpiry
  | heldExpiry
  | limitChange (position : Half) (top bottom : Bool)
  | settingLineChange (settingClear : Bool)
  | driveReadyChange (driveReady : Bool)
  | fireTrigger
  | alarmQuiet
  | curtainSample (position : Half) (top bottom settingClear : Bool)
  | movementNotice (kind : MoveKind) (outcome : MoveOutcome) (held : Bool) (duration tLimit : Nat)
  -- Alarm Unit
  | lineSample (line : Fin 32) (code : Byte)
  | isolate (h : Hdr) (line : Half) (minutes : Byte)
  | deisolate (h : Hdr) (line : Half)
  | isolationExpiry (line : Fin 32)
  | readAlarmList (h : Hdr)
  | readLines (h : Hdr)
  | acknowledge (h : Hdr)
  | ackTimeout
  | investigateTimeout
  | evacuateNow (h : Hdr)
  | silence (h : Hdr)
  | alarmReset (h : Hdr)
  | knockWindowEnd
  | alertNotice
  | evacuatedNotice
  | deskLossNotice
  | callAbandonedNotice
  -- Lighting Engine
  | setLevel (h : Hdr) (channel : Half) (level fade : Half)
  | standby (h : Hdr) (preset : Half)
  | go (h : Hdr)
  | setCycle (h : Hdr) (length : Byte)
  | readChannel (h : Hdr) (channel : Half)
  | fadeTick
  | cycleStart
  -- Override Selector
  | evacNotice (active : Bool)
  | fireLockNotice (set : Bool)
  | flickNotice (output : Fin 48) (on : Bool)
  | supervise (h : Hdr) (window lock : Byte)
  | keepalive (h : Hdr)
  | forceExpire (h : Hdr)
  | superviseOff (h : Hdr)
  | deskDeadline
  -- Call Unit
  | callNow (h : Hdr) (kind number repeats : Byte) (zones : List Half)
  | callAt (h : Hdr) (due : Clock) (kind number repeats : Byte) (zones : List Half)
  | callCancel (h : Hdr) (id : Byte)
  | readQueue (h : Hdr)
  | pageOpen (h : Hdr) (zones : List Half)
  | pageClose (h : Hdr)
  | pageLimit
  | callDue (id : Byte)
  | callStale (id : Byte)
  | stageChangeNotice
  | phaseChangeNotice
  | evacuationMessageStart (number : Nat)
  | evacuationMessageStop
  | staffCallStart (zone : Nat) (message : Option Nat)
  | staffCallStop
  | staffRepeatDue
  | messageEndSignal (channel : Fin 2)
  | playLimit (channel : Fin 2)
  | chimeNoteEnd (generator : Fin 2)
  | chimeRepeatGapEnd (generator : Fin 2)
  | messageRepeatGapEnd (channel : Fin 2)
  | flickDipEnd (id : Byte)
  | flickRepeatEnd (id : Byte)
  -- Authority Unit timer; Image and Maintenance
  | pairedExpiry (station : Station)
  | commissionBegin (h : Hdr)
  | writeObject (h : Hdr) (target : Byte) (object : Half) (header : Half) (body : List Byte)
  | writeStation (h : Hdr) (number present cpl : Byte)
  | writeParamsSection0 (h : Hdr) (houseLimit tAck : Byte) (tInv : Half) (message cycle : Byte)
  | writeParamsSection1 (h : Hdr) (pattern : Byte) (notes : List (Half × Byte))
  | commit (h : Hdr)
  | commitWriteEnd (readBack : Option (List Byte))
  | commitTimeout
  | abort (h : Hdr)
  | reloadEnd (read : Option (List Byte))
  | reloadTimeout
  | inhibitGroup (h : Hdr) (group : Byte)
  | clearInhibit (h : Hdr) (group : Byte)
  | restart (h : Hdr)
  | byteReceived (byte : Byte) (stopBit : Bool)
  | tableChangeNotice
  deriving DecidableEq, Repr

end Sys2Proof
end

