-- ==== Sys2Proof/Decode.lean ====
section
/-! DEFINITION. Decoding. The opcode table gives no row any bits, so `decodeTableWord` spells no command.
What the part itself decodes is the request frame: `decodeRequest` reads a request code and its
parameter bytes by the table of R197, and `encodeParams` writes them. -/

namespace Sys2Proof

open Machine

/-- The command that a word spells by spec/opcode_table.json: no row has bits, so none. -/
def decodeTableWord (_nbits _w : Nat) : Option Instr := none

/-- R197: the request codes. -/
def requestCodes : List Nat :=
  [0x01, 0x02, 0x08, 0x09, 0x0A, 0x0B] ++
  [0x10, 0x11, 0x12, 0x13, 0x14, 0x15, 0x16, 0x17] ++
  [0x20, 0x21, 0x22, 0x23, 0x24, 0x25, 0x26, 0x27] ++
  [0x30, 0x31, 0x32, 0x33, 0x34, 0x35, 0x36, 0x37] ++
  [0x40, 0x41, 0x42, 0x43, 0x44, 0x48, 0x49, 0x4A, 0x4B] ++
  [0x50, 0x51, 0x52, 0x53, 0x54, 0x55] ++
  [0x60, 0x61, 0x62, 0x63, 0x64, 0x65, 0x66, 0x67, 0x68]

/-- The notes of WRITE_PARAMS section 1: a divisor of two bytes and a duration of one. -/
def notesOf : List Byte → Option (List (Half × Byte))
  | [] => some []
  | a :: b :: c :: rest => (notesOf rest).map ((halfOf a b, c) :: ·)
  | _ => none

/-- The zone selectors after a zone count (R164, R174); none when the length does not match the count. -/
def zonesOf (count : Byte) (rest : List Byte) : Option (List Half) :=
  if rest.length = 2 * count.toNat then halvesOf rest else none

/-- R197: the parameter layout of each code; none when the parameters do not match it. -/
def decodeParams (h : Hdr) (code : Nat) (params : List Byte) : Option Instr :=
  match code, params with
  | 0x01, [] => some (.status h)
  | 0x02, [] => some (.describe h)
  | 0x08, [a, b] => some (.useGate h (halfOf a b))
  | 0x09, [a] => some (.resetEnable h a)
  | 0x0A, [a, b] => some (.readObject h (halfOf a b))
  | 0x0B, [a] => some (.readStation h a)
  | 0x10, [a, b, c, d] => some (.setClock h (clockOf a b c d))
  | 0x11, [] => some (.prepare h)
  | 0x12, [] => some (.openHouse h)
  | 0x13, [] => some (.beginAct h)
  | 0x14, [m, a, b] => some (.beginInterval h m (halfOf a b))
  | 0x15, [m] => some (.extendInterval h m)
  | 0x16, [] => some (.closeHouse h)
  | 0x17, [] => some (.goDark h)
  | 0x20, [a, b] => some (.lower h (halfOf a b))
  | 0x21, [] => some (.permitRaise h)
  | 0x22, [a, b] => some (.raise h (halfOf a b))
  | 0x23, [a, b] => some (.hold h (halfOf a b))
  | 0x24, [a, b] => some (.resume h (halfOf a b))
  | 0x25, [] => some (.clearFault h)
  | 0x26, [] => some (.releaseLock h)
  | 0x27, [] => some (.readMovements h)
  | 0x30, [a, b, m] => some (.isolate h (halfOf a b) m)
  | 0x31, [a, b] => some (.deisolate h (halfOf a b))
  | 0x32, [] => some (.readAlarmList h)
  | 0x33, [] => some (.readLines h)
  | 0x34, [] => some (.acknowledge h)
  | 0x35, [] => some (.evacuateNow h)
  | 0x36, [] => some (.silence h)
  | 0x37, [] => some (.alarmReset h)
  | 0x40, [a, b, c, d, e, f] => some (.setLevel h (halfOf a b) (halfOf c d) (halfOf e f))
  | 0x41, [a, b] => some (.standby h (halfOf a b))
  | 0x42, [] => some (.go h)
  | 0x43, [n] => some (.setCycle h n)
  | 0x44, [a, b] => some (.readChannel h (halfOf a b))
  | 0x48, [w, l] => some (.supervise h w l)
  | 0x49, [] => some (.keepalive h)
  | 0x4A, [] => some (.forceExpire h)
  | 0x4B, [] => some (.superviseOff h)
  | 0x50, k :: n :: r :: z :: rest => (zonesOf z rest).map (.callNow h k n r ·)
  | 0x51, a :: b :: c :: d :: k :: n :: r :: z :: rest =>
    (zonesOf z rest).map (.callAt h (clockOf a b c d) k n r ·)
  | 0x52, [i] => some (.callCancel h i)
  | 0x53, [] => some (.readQueue h)
  | 0x54, z :: rest => (zonesOf z rest).map (.pageOpen h ·)
  | 0x55, [] => some (.pageClose h)
  | 0x60, [] => some (.commissionBegin h)
  | 0x61, t :: a :: b :: c :: d :: body => some (.writeObject h t (halfOf a b) (halfOf c d) body)
  | 0x62, [n, p, l] => some (.writeStation h n p l)
  | 0x63, [s, l, a, i, j, m, n] =>
    if s = 0 then some (.writeParamsSection0 h l a (halfOf i j) m n) else none
  | 0x63, s :: p :: c :: rest =>
    if s = 1 ∧ rest.length = 3 * c.toNat then (notesOf rest).map (.writeParamsSection1 h p ·) else none
  | 0x64, [] => some (.commit h)
  | 0x65, [] => some (.abort h)
  | 0x66, [g] => some (.inhibitGroup h g)
  | 0x67, [g] => some (.clearInhibit h g)
  | 0x68, [] => some (.restart h)
  | _, _ => none

/-- What the Desk Link's first steps make of a request (R185): an unknown code; parameters that do not
match their layout; the same for one of the three commissioning writes, whose decoding failures come
after the state tests of R204; or a request. -/
inductive Decoded where
  | unknown
  | malformed
  | malformedWrite
  | request (i : Instr)
  deriving DecidableEq, Repr

/-- R185 steps 1 and 3, R197: a request code and its parameter bytes. -/
def decodeRequest (h : Hdr) (code : Byte) (params : List Byte) : Decoded :=
  if code.toNat ∈ requestCodes then
    match decodeParams h code.toNat params with
    | some i => .request i
    | none =>
      if code.toNat = 0x61 ∨ code.toNat = 0x62 ∨ code.toNat = 0x63 then .malformedWrite else .malformed
  else .unknown

/-- The header of a request row; none for an event row. -/
def headerOf : Instr → Option Hdr
  | .status h | .describe h | .useGate h _ | .resetEnable h _ | .readObject h _ | .readStation h _ => some h
  | .setClock h _ | .prepare h | .openHouse h | .beginAct h | .beginInterval h _ _ => some h
  | .extendInterval h _ | .closeHouse h | .goDark h => some h
  | .lower h _ | .permitRaise h | .raise h _ | .hold h _ | .resume h _ | .clearFault h => some h
  | .releaseLock h | .readMovements h => some h
  | .isolate h _ _ | .deisolate h _ | .readAlarmList h | .readLines h | .acknowledge h => some h
  | .evacuateNow h | .silence h | .alarmReset h => some h
  | .setLevel h _ _ _ | .standby h _ | .go h | .setCycle h _ | .readChannel h _ => some h
  | .supervise h _ _ | .keepalive h | .forceExpire h | .superviseOff h => some h
  | .callNow h _ _ _ _ | .callAt h _ _ _ _ _ | .callCancel h _ | .readQueue h | .pageOpen h _ => some h
  | .pageClose h => some h
  | .commissionBegin h | .writeObject h _ _ _ _ | .writeStation h _ _ _ => some h
  | .writeParamsSection0 h _ _ _ _ _ | .writeParamsSection1 h _ _ | .commit h | .abort h => some h
  | .inhibitGroup h _ | .clearInhibit h _ | .restart h => some h
  | _ => none

/-- R197: the request code of a request row (0, which is no code, for an event row). -/
def codeOf : Instr → Byte
  | .status _ => 0x01 | .describe _ => 0x02 | .useGate _ _ => 0x08 | .resetEnable _ _ => 0x09
  | .readObject _ _ => 0x0A | .readStation _ _ => 0x0B
  | .setClock _ _ => 0x10 | .prepare _ => 0x11 | .openHouse _ => 0x12 | .beginAct _ => 0x13
  | .beginInterval _ _ _ => 0x14 | .extendInterval _ _ => 0x15 | .closeHouse _ => 0x16 | .goDark _ => 0x17
  | .lower _ _ => 0x20 | .permitRaise _ => 0x21 | .raise _ _ => 0x22 | .hold _ _ => 0x23
  | .resume _ _ => 0x24 | .clearFault _ => 0x25 | .releaseLock _ => 0x26 | .readMovements _ => 0x27
  | .isolate _ _ _ => 0x30 | .deisolate _ _ => 0x31 | .readAlarmList _ => 0x32 | .readLines _ => 0x33
  | .acknowledge _ => 0x34 | .evacuateNow _ => 0x35 | .silence _ => 0x36 | .alarmReset _ => 0x37
  | .setLevel _ _ _ _ => 0x40 | .standby _ _ => 0x41 | .go _ => 0x42 | .setCycle _ _ => 0x43
  | .readChannel _ _ => 0x44 | .supervise _ _ _ => 0x48 | .keepalive _ => 0x49 | .forceExpire _ => 0x4A
  | .superviseOff _ => 0x4B
  | .callNow _ _ _ _ _ => 0x50 | .callAt _ _ _ _ _ _ => 0x51 | .callCancel _ _ => 0x52
  | .readQueue _ => 0x53 | .pageOpen _ _ => 0x54 | .pageClose _ => 0x55
  | .commissionBegin _ => 0x60 | .writeObject _ _ _ _ _ => 0x61 | .writeStation _ _ _ _ => 0x62
  | .writeParamsSection0 _ _ _ _ _ _ => 0x63 | .writeParamsSection1 _ _ _ => 0x63
  | .commit _ => 0x64 | .abort _ => 0x65 | .inhibitGroup _ _ => 0x66 | .clearInhibit _ _ => 0x67
  | .restart _ => 0x68
  | _ => 0x00

/-- R197: the parameter bytes of a request row, in the order of its rule. -/
def encodeParams : Instr → List Byte
  | .useGate _ a | .readObject _ a | .lower _ a | .raise _ a | .hold _ a | .resume _ a => halfBytes a
  | .deisolate _ a | .standby _ a | .readChannel _ a => halfBytes a
  | .resetEnable _ a | .readStation _ a | .extendInterval _ a | .setCycle _ a | .callCancel _ a => [a]
  | .inhibitGroup _ a | .clearInhibit _ a => [a]
  | .setClock _ v => clockBytes v
  | .beginInterval _ m a => m :: halfBytes a
  | .isolate _ a m => halfBytes a ++ [m]
  | .setLevel _ a l f => halfBytes a ++ halfBytes l ++ halfBytes f
  | .supervise _ w l => [w, l]
  | .callNow _ k n r zs => [k, n, r] ++ counted halfBytes zs
  | .callAt _ d k n r zs => clockBytes d ++ [k, n, r] ++ counted halfBytes zs
  | .pageOpen _ zs => counted halfBytes zs
  | .writeObject _ t a b body => t :: halfBytes a ++ halfBytes b ++ body
  | .writeStation _ n p l => [n, p, l]
  | .writeParamsSection0 _ l a v m n => [0, l, a] ++ halfBytes v ++ [m, n]
  | .writeParamsSection1 _ p ns => [1, p] ++ counted (fun x => halfBytes x.1 ++ [x.2]) ns
  | _ => []

end Sys2Proof
end

