-- ==== Sys2Proof/Config.lean ====
section
/-! DEFINITION. What the part fixes (the capacity table of R193 and the fixed times of the rules). No free
value stands here: the manual gives every result of every command (see notes/assumptions/1.md). -/

namespace Sys2Proof.Config

/-- The part code and revision of DESCRIBE (R193). -/
def partCode : Nat := 620
def revision : Nat := 1

/-- R184: the receive buffer holds 0..8 items. -/
def receiveItems : Nat := 8
/-- R190: the report queue holds 0..32 reports. -/
def reportRecords : Nat := 32
/-- R50: the movement log holds up to 16 closed records. -/
def logRecords : Nat := 16
/-- R163: the call queue holds 0..32 records. -/
def queueRecords : Nat := 32
/-- R181: the longest length byte n. -/
def longestFrame : Nat := 240
/-- R186: the data bytes of every reply part but the last. -/
def partBytes : Nat := 235
/-- R199: the bytes of the configuration memory. -/
def memoryBytes : Nat := 65536

/-- R193: the capacity table, item number and value. -/
def capacities : List (Nat × Nat) :=
  [(1, 16), (2, 128), (3, 16), (4, 24), (5, 32), (6, 48), (7, 16), (8, 1), (9, 16), (10, 32),
   (11, 48), (12, 48), (13, 16), (14, 2), (15, 2), (16, 8), (17, 4), (18, 32), (19, 16), (20, 32),
   (21, 8), (22, 4), (23, 240), (24, 16), (25, 8)]

/-- R21: a paired record expires 10 s after its enable. -/
def pairedTicks : Clock := 1000
/-- R52: the raise permit stands for 30 s. -/
def permitTicks : Clock := 3000
/-- R70: the grid of a movement has a sample every 100 ms. -/
def sampleTicks : Clock := 10
/-- R54: a held movement stands for 600 s. -/
def heldTicks : Clock := 60000
/-- R122: the second-knock window stands for 60 s. -/
def knockTicks : Clock := 6000
/-- R159 and R174: a play or a page stands for at most 120 s. -/
def playTicks : Clock := 12000
/-- R161: the staff message is repeated every 20 s. -/
def staffTicks : Clock := 2000
/-- R167: a waiting call is given up 60 s after its due time. -/
def staleTicks : Clock := 6000
/-- R168 and R169: the silence between two plays of a call. -/
def gapTicks : Clock := 100
/-- R170: a flick dip, and the return after it, take 500 ms each. -/
def dipTicks : Clock := 50
/-- R199 and R203: the image read ends within 5 s. -/
def readTicks : Clock := 500
/-- R202: the image write and verify end within 10 s. -/
def writeTicks : Clock := 1000
/-- R35: the interval end lies at most 24 hours ahead. -/
def extendLimit : Nat := 8640000

end Sys2Proof.Config
end

