-- ==== Sys2Proof/Machine/Types.lean ====
section
/-! DEFINITION. The records and enumerations of the nine blocks: table entries (R1 to R11), movement records
(R48), line records (R86), channel records (R124), call records (R162), reports (R191) and the rest.
Enumerations list their members in the order of the rule that names them (R187 numbers them so). -/

namespace Sys2Proof.Machine

/-! ## Authority Unit: selectors, entries, tables -/

/-- A decoded selector (R12): the table indicator, the requested level and the index. -/
structure Selector where
  isLocal : Bool
  rpl : Level
  index : Fin 256
  deriving DecidableEq, Repr

/-- R4: what the body of an entry is. -/
inductive EntryType where
  | zone | line | channel | circuit | curtain | gate | preset | script
  deriving DecidableEq, Repr

/-- R5: the part of the house a zone covers. -/
inductive ZoneKind where
  | audience | foyer | stage | backstage
  deriving DecidableEq, Repr

/-- R5: the body of a ZONE entry. -/
structure ZoneBody where
  kind : ZoneKind
  staged : Bool
  curtainTrigger : Bool
  wholeHouse : Bool
  channels : List Nat
  circuits : List Nat
  staffMessage : Nat
  deriving DecidableEq, Repr

/-- R7: the kind of a detector line. -/
inductive LineKind where
  | detector | callPoint
  deriving DecidableEq, Repr

/-- R7: the body of a LINE entry. -/
structure LineBody where
  line : Nat
  kind : LineKind
  zone : Nat
  effectIsolatable : Bool
  deriving DecidableEq, Repr

/-- R8: which override events may take a channel from its primary level. -/
structure OverrideMask where
  evac : Bool
  fireLock : Bool
  deskLoss : Bool
  flick : Bool
  deriving DecidableEq, Repr

/-- R8: the body of a CHANNEL entry. -/
structure ChannelBody where
  output : Nat
  mask : OverrideMask
  emergency : Nat
  hold : Nat
  flick : Nat
  start : Nat
  deriving DecidableEq, Repr

/-- R9: the body of a CIRCUIT entry. -/
structure CircuitBody where
  output : Nat
  staff : Bool
  programme : Bool
  deriving DecidableEq, Repr

/-- R10: the curtain parameters. -/
structure CurtainParams where
  travel : Nat
  slowStart : Nat
  tLimit : Nat
  vMinFast : Nat
  vMaxFast : Nat
  vMaxSlow : Nat
  vSlowNom : Nat
  tRaiseLimit : Nat
  vMinRaise : Nat
  deriving DecidableEq, Repr

/-- R11: the actions a gate may name. -/
inductive GateAction where
  | manualCall | manualDrop | alarmAck
  deriving DecidableEq, Repr

/-- R11: the body of a GATE entry; the zone is present for MANUAL_CALL alone. -/
structure GateBody where
  action : GateAction
  target : Level
  zone : Option Nat
  deriving DecidableEq, Repr

/-- R130: the body of a PRESET entry. -/
structure PresetBody where
  fade : Nat
  pairs : List (Selector × Nat)
  deriving DecidableEq, Repr

/-- What a call plays (R162): a chime pattern, a message, or a flick. -/
inductive CallKind where
  | chime (pattern : Nat)
  | message (number : Nat)
  | flick
  deriving DecidableEq, Repr

/-- R176: one step of a SCRIPT entry. -/
structure ScriptStep where
  offset : Nat
  kind : CallKind
  zones : List Selector
  repeats : Nat
  deriving DecidableEq, Repr

/-- The body of an entry, by type (R2, R5 to R11). -/
inductive Body where
  | zone (b : ZoneBody)
  | line (b : LineBody)
  | channel (b : ChannelBody)
  | circuit (b : CircuitBody)
  | curtain (b : CurtainParams)
  | gate (b : GateBody)
  | preset (b : PresetBody)
  | script (steps : List ScriptStep)
  deriving DecidableEq, Repr

/-- One record of the house table or of a local table (R4). An entry is present exactly when it has a
body, so that a body stands only where it has a meaning; `blankType` is the type its header shows
while it is not present. DEDUCED, safe: notes/assumptions/16.md. -/
structure Entry where
  body : Option Body
  blankType : EntryType
  dpl : Level
  used : Bool
  deriving DecidableEq, Repr

/-- R168: one note of a chime pattern. -/
structure Note where
  divisor : Nat
  duration : Nat
  deriving DecidableEq, Repr

/-- R105 and R199: the stored parameters. -/
structure Params where
  tAck : Nat
  tInv : Nat
  message : Nat
  cycle : Nat
  deriving DecidableEq, Repr

/-- R1: the present flag and the level of a station. -/
structure StationRec where
  present : Bool
  cpl : Level
  deriving DecidableEq, Repr

/-- Everything that the configuration image holds (R199): the station, house and local tables, the
chime patterns and the parameters. -/
structure Tables where
  stations : Vector StationRec 16
  limit : Nat
  house : Vector Entry 128
  locals : Vector (Vector Entry 16) 16
  patterns : Vector (List Note) 8
  params : Params
  deriving DecidableEq, Repr

/-- R21: the action of a paired record. -/
inductive PairedAction where
  | alarm | restart
  deriving DecidableEq, Repr

/-- R1 and R21: the outstanding enable of a paired request. -/
structure Paired where
  action : PairedAction
  expiry : Clock
  deriving DecidableEq, Repr

/-- R14: the six checks. -/
inductive CheckKind where
  | station | null | limit | empty | type | level
  deriving DecidableEq, Repr

/-- R16: the access fault record. -/
structure AccessFault where
  kind : CheckKind
  isLocal : Bool
  index : Nat
  fromRecord : Bool
  item : Nat
  sub : Nat
  deriving DecidableEq, Repr

/-- R188: the status codes. -/
inductive Status where
  | ok | wPartial | eCode | eParam | eAccess | ePhase | eStage | eMotion | eLocked | ePermit
  | eFull | eNothing | eSequence | eStarting | eInhibit | eCommission | eBusy
  deriving DecidableEq, Repr

/-- What a request is answered: the status and the data of its reply (R186). -/
structure Answer where
  status : Status
  data : List Byte
  deriving DecidableEq, Repr

/-! ## Show Sequencer -/

/-- R28: the six performance phases. -/
inductive Phase where
  | dark | prepare | houseOpen | act | interval | showDown
  deriving DecidableEq, Repr

/-- R38: the iron check. -/
inductive IronCheck where
  | none | lowered | done
  deriving DecidableEq, Repr

/-- R38: the performance record. Its phase field is the phase of R28. -/
structure Performance where
  phase : Phase
  act : Nat
  interval : Nat
  intervalEnd : Option Clock
  houseOpen : Option Clock
  iron : IronCheck
  ironDuration : Option Nat
  alerts : Nat
  evacuated : Bool
  deskLosses : Nat
  abandoned : Nat
  deriving DecidableEq, Repr

/-! ## Curtain Controller -/

/-- R46: the curtain state, in the order of the table. -/
inductive CurtainState where
  | out | inn | parked | lowering | raising | held | fault
  deriving DecidableEq, Repr

/-- R48: the fault flags, in the order that R46 gives for the fault reason. -/
inductive FaultFlag where
  | underspeed | overspeed | dashpot | stall | overtime | raiseStall | raiseOvertime
  deriving DecidableEq, Repr

/-- R48: the warn flags. -/
inductive WarnFlag where
  | late | obstructed | encoderMismatch
  deriving DecidableEq, Repr

/-- R46: LIMITS_BOTH, or the fault flag that ended the movement. -/
inductive FaultReason where
  | limitsBoth
  | flag (f : FaultFlag)
  deriving DecidableEq, Repr

/-- R60: what first set the fire lock. -/
inductive LockCause where
  | fire | manual
  deriving DecidableEq, Repr

/-- R68: the causes of a CURTAIN report. -/
inductive CurtainCause where
  | lower | raise | hold | resume | settingLine | heldExpiry | driveLost | clearFault | releaseLock
  | fireTrigger | manualTrigger | stage | alarmQuiet | inhibit | limit | complete | fault
  deriving DecidableEq, Repr

/-- R48: a movement record. The flags are lists without repeats, in no particular order. `startPosition`
is the position at sample 0 (R70). -/
structure MoveRec where
  kind : MoveKind
  start : Clock
  stop : Option Clock
  duration : Nat
  outcome : Option MoveOutcome
  faults : List FaultFlag
  warns : List WarnFlag
  held : Bool
  slowEntry : Option Nat
  fastMax : Nat
  slowMax : Nat
  startPosition : Nat
  deriving DecidableEq, Repr

/-- The open movement: its record (R48), its parameter copy (R45), its supervision state (R72) and the time of
its grid's next sample (R70). -/
structure Movement where
  record : MoveRec
  params : CurtainParams
  nextSample : Clock
  previous : Option Nat
  window : List Int
  allowance : Nat
  elapsed : Nat
  slowCount : Option Nat
  underCount : Nat
  overCount : Nat
  dashpotCount : Nat
  stallCount : Nat
  lateCount : Nat
  raiseStallCount : Nat
  deriving DecidableEq, Repr

/-- R43: the levels of the five field inputs of the Curtain Controller. -/
structure Pins where
  position : Half
  top : Bool
  bottom : Bool
  settingClear : Bool
  driveReady : Bool
  deriving DecidableEq, Repr

/-- The Curtain Controller's state (R43 to R52). Its five field inputs stand here as they are at their pins, and
are read there whenever a rule has them read. DESIGN CHOICE, unsafe: notes/assumptions/9.md. -/
structure Curtain where
  position : Nat
  top : Bool
  bottom : Bool
  settingClear : Bool
  driveReady : Bool
  state : CurtainState
  reason : Option FaultReason
  lock : Option LockCause
  permit : Option Clock
  move : Option Movement
  heldExpiry : Option Clock
  log : List MoveRec
  deriving DecidableEq, Repr

/-- R62: CC's answer to a MANUAL_DROP. -/
inductive DropResult where
  | dropping | alreadyDropping | alreadyIn | blocked
  deriving DecidableEq, Repr

/-! ## Alarm Unit -/

/-- R86: the state of a line. -/
inductive LineState where
  | normal | alarm | opened | short | isolated
  deriving DecidableEq, Repr

/-- R87: the bands of a line code, which are the classes too. -/
inductive Band where
  | opened | normal | alarm | short
  deriving DecidableEq, Repr

/-- R86: the kind of an isolation. -/
inductive IsolationKind where
  | indefinite | timed
  deriving DecidableEq, Repr

/-- R86: an isolation record; the end stands for a TIMED one. -/
structure Isolation where
  kind : IsolationKind
  start : Clock
  stop : Option Clock
  station : Station
  deriving DecidableEq, Repr

/-- R86: a line record. -/
structure LineRec where
  state : LineState
  last : Option Byte
  present : Option Band
  candidate : Option Band
  run : Nat
  isolation : Option Isolation
  deriving DecidableEq, Repr

/-- R91: the causes of a LINE report. -/
inductive LineCause where
  | classTaken | alarmReset | isolate | deisolate | expiry | closeHouse | entryRemoved
  deriving DecidableEq, Repr

/-- R97: what raised an alarm: a line number, or the house index of a GATE entry. -/
inductive Origin where
  | line (number : Nat)
  | gate (index : Nat)
  deriving DecidableEq, Repr

/-- R97: one entry of the alarm list. -/
structure AlarmEntry where
  origin : Origin
  zone : Nat
  time : Clock
  staged : Bool
  deriving DecidableEq, Repr

/-- R104: the alarm stage. -/
inductive Stage where
  | quiet | alert | investigate | evacuate | silenced
  deriving DecidableEq, Repr

/-- R107: the causes of a STAGE report. -/
inductive StageCause where
  | firstEntry | furtherEntry | acknowledge | alarmAck | ackTimeout | investigateTimeout
  | evacuateNow | silence | alarmReset
  deriving DecidableEq, Repr

/-- R104: who acknowledged, and through which gate. -/
structure Acknowledgement where
  station : Station
  gate : Option Nat
  deriving DecidableEq, Repr

/-- The Alarm Unit's state: the line records (R86), the alarm list (R97) and the stage record (R104). -/
structure Alarm where
  lines : Vector LineRec 32
  list : List AlarmEntry
  stage : Stage
  enteredAt : Clock
  ackDue : Option Clock
  invDue : Option Clock
  ackBy : Option Acknowledgement
  knockEnd : Option Clock
  sounders : Bool
  deriving DecidableEq, Repr

/-! ## Lighting Engine and Override Selector -/

/-- R127: a running fade. -/
structure Fade where
  start : Nat
  target : Nat
  n : Nat
  k : Nat
  owner : Station
  deriving DecidableEq, Repr

/-- R124: a channel record. -/
structure Channel where
  primary : Nat
  fade : Option Fade
  selected : Nat
  reload : Nat
  high : Nat
  deriving DecidableEq, Repr

/-- The Lighting Engine's state: channel records (R124), pending cues (R131), the cycle length and the
pending one (R138), the PWM counter (R135), whether every line is held fully on (R125, R139), the PWM counts
since the last show-clock tick, and the half-way mark of the 20 ms fade-tick count (R126). -/
structure Lighting where
  channels : Vector Channel 48
  cues : Vector (Option (Fin 16)) 16
  cycle : Nat
  pendingCycle : Option Nat
  counter : Nat
  forced : Bool
  tickCount : Nat
  fadeHalf : Bool
  deriving DecidableEq, Repr

/-- R142: where the selected level is taken from. -/
inductive Source where
  | primary | emergency | hold | flick
  deriving DecidableEq, Repr

/-- R142: a change of source still being eased in. -/
structure Transition where
  origin : Nat
  j : Nat
  m : Nat
  deriving DecidableEq, Repr

/-- R142: a selection record; its selected level stands in the channel record (R124). -/
structure Selection where
  source : Source
  transition : Option Transition
  deriving DecidableEq, Repr

/-- R150: the supervision record; DESK_LOSS stands in the event set. -/
structure Supervision where
  enabled : Bool
  locked : Bool
  window : Nat
  station : Option Station
  deadline : Option Clock
  deriving DecidableEq, Repr

/-- The Override Selector's state: the event set and the selection records (R142), and the supervision
record (R150). -/
structure Overrides where
  evac : Bool
  fireLock : Bool
  deskLoss : Bool
  flick : ChannelSet
  selections : Vector Selection 48
  sup : Supervision
  deriving DecidableEq, Repr

/-- R155: the events of a DESK report. -/
inductive DeskEvent where
  | enabled | locked | lost | restored | disabled
  deriving DecidableEq, Repr

/-! ## Call Unit -/

/-- R156: the single user a resource is granted to; a call is named by its call id. -/
inductive Holder where
  | evacuation
  | staffCall
  | page
  | call (id : Byte)
  deriving DecidableEq, Repr

/-- R156 and R157: a circuit's holder, and whether its default source is programme. -/
structure Circuit where
  holder : Option Holder
  programme : Bool
  deriving DecidableEq, Repr

/-- R156: a chime generator's holder and the note it sounds. -/
structure Generator where
  holder : Option Byte
  note : Option Note
  deriving DecidableEq, Repr

/-- R156 and R159: a message channel. -/
structure MessageChannel where
  holder : Option Holder
  trigger : Bool
  number : Nat
  limit : Option Clock
  deriving DecidableEq, Repr

/-- R162: how a call entered the queue. -/
inductive CallOrigin where
  | direct
  | script (interval : Nat)
  deriving DecidableEq, Repr

/-- R162: the state of a call record. -/
inductive CallState where
  | queued | waiting | playing
  deriving DecidableEq, Repr

/-- Where the playback of a PLAYING call stands (R168 to R170): the notes after the one that sounds and
the end of that note; the silence between plays; a message play on its channel; a dip; the return
after a dip. -/
inductive Playback where
  | idle
  | note (rest : List Note) (due : Clock)
  | gap (due : Clock)
  | message
  | dip (due : Clock)
  | back (due : Clock)
  deriving DecidableEq, Repr

/-- R162: a call record, with its playback and the pattern copy of R168. -/
structure Call where
  id : Byte
  owner : Station
  origin : CallOrigin
  entryNo : Nat
  due : Clock
  kind : CallKind
  zones : List Nat
  repeats : Nat
  state : CallState
  source : Option (Fin 2)
  granted : CircuitSet
  missed : CircuitSet
  done : Nat
  pattern : List Note
  playback : Playback
  deriving DecidableEq, Repr

/-- The page (R174): its owner, zones, limit and the circuits it did not get or has lost. -/
structure Page where
  owner : Station
  zones : List Nat
  limit : Clock
  missed : CircuitSet
  deriving DecidableEq, Repr

/-- The staff call (R161): its message, its repeat due, and whether a new play follows at the end of the
one that runs. `message` is none when the staff call takes and plays nothing. -/
structure StaffCall where
  zone : Nat
  message : Option Nat
  repeatDue : Option Clock
  again : Bool
  deriving DecidableEq, Repr

/-- The Call Unit's state (R156, R162, R163, R170): the resources, the page, the evacuation message and
the staff call, the queue with its two counts, and the flick owner of each channel output. -/
structure Calls where
  circuits : Vector Circuit 16
  generators : Vector Generator 2
  channels : Vector MessageChannel 2
  page : Option Page
  evacuation : Option Nat
  staff : Option StaffCall
  queue : List Call
  nextId : Byte
  nextEntry : Nat
  flickOwner : Vector (Option Byte) 48
  deriving DecidableEq, Repr

/-- R173: the events of a CALL report. -/
inductive CallEvent where
  | started | partialLoss | done | abandoned | cancelled
  deriving DecidableEq, Repr

/-- R173: the reasons of a CALL report, by event. -/
inductive CallReason where
  | stale | preempted | evacuation | player | noCircuits
  | request | beginAct | closeHouse
  | closed | limit
  deriving DecidableEq, Repr

/-! ## Image and Maintenance -/

/-- R198: why the controller runs on the safe default configuration. -/
inductive DefaultReason where
  | absent | noResponse | header | crc | content
  deriving DecidableEq, Repr

/-- R198: the commissioning state. -/
inductive CommState where
  | closed | opened | writing | reloading
  deriving DecidableEq, Repr

/-- R205: the output groups. -/
inductive Group where
  | drive | lighting | audio | sounders
  deriving DecidableEq, Repr

/-- R198: the set of group inhibits. -/
structure Inhibits where
  drive : Bool
  lighting : Bool
  audio : Bool
  sounders : Bool
  deriving DecidableEq, Repr

/-- The commit write or image reload in progress (R202, R203): the station that asked for it, its time
limit, and for a commit the image bytes taken at COMMIT. -/
structure Work where
  station : Station
  due : Clock
  image : List Byte
  deriving DecidableEq, Repr

/-- Image and Maintenance's state (R198). `loadDue` is the time limit of the load (R199). -/
structure Maint where
  lr : Fin 4
  img : Bool
  starting : Bool
  loadDue : Option Clock
  valid : Bool
  reason : Option DefaultReason
  comm : CommState
  work : Option Work
  inhibit : Inhibits
  deriving DecidableEq, Repr

/-- R203: the events of an IMAGE report. -/
inductive ImageEvent where
  | written | failed | reloaded
  deriving DecidableEq, Repr

/-- R203: the reason of an IMAGE report: of a FAILED write, or of a reload that took the defaults. -/
inductive ImageReason where
  | verify
  | noAnswer
  | default (r : DefaultReason)
  deriving DecidableEq, Repr

/-! ## Reports and the Desk Link -/

/-- R29: the cause of a PHASE report: the request code, or INTERVAL_DUE. -/
inductive PhaseCause where
  | request (code : Nat)
  | intervalDue
  deriving DecidableEq, Repr

/-- R107: the fields of a STAGE report. -/
structure StageReport where
  previous : Stage
  stage : Stage
  cause : StageCause
  station : Station
  entry : Option (Nat × Origin)
  gate : Option Nat
  count : Nat
  first : Option AlarmEntry
  due : Option Clock
  knockEnd : Option Clock
  sounders : Bool
  fireSent : Bool
  deriving DecidableEq, Repr

/-- R68: the fields of a CURTAIN report. -/
structure CurtainReport where
  previous : CurtainState
  state : CurtainState
  cause : CurtainCause
  record : Option MoveKind
  position : Nat
  lock : Option LockCause
  permit : Option Clock
  reason : Option FaultReason
  deriving DecidableEq, Repr

/-- R69 and R81: the flag that a CURTAIN_WARN report carries. -/
inductive WarnReport where
  | warn (f : WarnFlag)
  | fault (f : FaultFlag)
  deriving DecidableEq, Repr

/-- R91: the fields of a LINE report. -/
structure LineReport where
  line : Nat
  entry : Nat
  zone : Nat
  previous : LineState
  state : LineState
  cause : LineCause
  last : Option Byte
  deriving DecidableEq, Repr

/-- R96: the fields of an ISOLATION report. -/
structure IsolationReport where
  line : Nat
  entry : Nat
  isolation : Isolation
  cause : LineCause
  deriving DecidableEq, Repr

/-- R155: the fields of a DESK report. -/
structure DeskReport where
  event : DeskEvent
  station : Station
  sup : Supervision
  deskLoss : Bool
  deriving DecidableEq, Repr

/-- R173: the subject of a CALL report: a call as its record stands, or the page's owner and zones. -/
inductive CallSubject where
  | call (c : Call) (owned : Nat)
  | page (owner : Station) (zones : List Nat)
  deriving DecidableEq, Repr

/-- R173: the fields of a CALL report; `lost` are the circuits that a PARTIAL lost (R171).
DESIGN CHOICE, unsafe: notes/assumptions/23.md. -/
structure CallReport where
  subject : CallSubject
  event : CallEvent
  reason : Option CallReason
  granted : CircuitSet
  missed : CircuitSet
  lost : CircuitSet
  deriving DecidableEq, Repr

/-- R191: the thirteen report kinds and what each carries. -/
inductive Report where
  | start (valid : Bool) (reason : Option DefaultReason) (lr : Fin 4) (img : Bool) (limit stations : Nat)
  | phase (previous phase : Phase) (cause : PhaseCause) (station : Station) (act interval : Nat)
      (intervalEnd : Option Clock)
  | summary (record : Performance) (missed : Bool)
  | stage (r : StageReport)
  | line (r : LineReport)
  | isolation (r : IsolationReport)
  | curtain (r : CurtainReport)
  | movement (r : MoveRec)
  | curtainWarn (flag : WarnReport) (kind : MoveKind) (start : Clock) (position elapsed : Nat)
  | desk (r : DeskReport)
  | call (r : CallReport)
  | inhibit (group : Group) (now : Bool) (station : Station) (all : Inhibits)
  | image (event : ImageEvent) (reason : Option ImageReason) (valid : Bool) (comm : CommState)
      (station : Station)
  deriving DecidableEq, Repr

/-- A report in the report queue (R190): its order of production (R189) and its timestamp. -/
structure Queued where
  order : Nat
  stamp : Clock
  report : Report
  deriving DecidableEq, Repr

/-- R183: why a frame was discarded. -/
inductive FrameReason where
  | crc | length | timeout | kind
  deriving DecidableEq, Repr

/-- R183: a frame-error item: the reason, the station nibble, the tag and the count of bytes received after
the sync byte. -/
structure FrameError where
  reason : FrameReason
  station : Station
  tag : Byte
  count : Nat
  deriving DecidableEq, Repr

/-- R184: an item of the receive buffer. -/
inductive RxItem where
  | request (h : Hdr) (code : Byte) (params : List Byte)
  | error (e : FrameError)
  deriving DecidableEq, Repr

/-- R186: a reply: its header, code, status and data. -/
structure Reply where
  hdr : Hdr
  code : Byte
  status : Status
  data : List Byte
  deriving DecidableEq, Repr

/-- What waits in the reply slot (R184, R186): a reply whose parts before `part` have been started, or a
frame-error frame. -/
inductive Outgoing where
  | reply (r : Reply) (part : Nat)
  | error (e : FrameError)
  deriving DecidableEq, Repr

/-- The reply slot: what waits and its order of production (R189). -/
structure Slot where
  order : Nat
  what : Outgoing
  deriving DecidableEq, Repr

/-- R183: the receiver's state. `bytes` are the bytes received after the sync byte, the length byte
first; `n` is the length byte taken. In CHECK, whether the first CRC byte is stored shows in the
count of `bytes`. -/
inductive RxState where
  | hunt | length | body | check
  deriving DecidableEq, Repr

/-- The Desk Link's state (R183, R184, R189, R190): the receiver, the receive buffer, the reply slot, the
report queue, the overrun flag, the overflow count, the order of the next frame produced, the frame
on the line, and whether a RESTART was taken (R195). The link rate is Image and Maintenance's `lr`. -/
structure Link where
  rx : RxState
  n : Nat
  bytes : List Byte
  buffer : List RxItem
  slot : Option Slot
  reports : List Queued
  overrun : Bool
  overflow : Nat
  nextOrder : Nat
  line : Option (List Byte)
  restarting : Bool
  deriving DecidableEq, Repr

end Sys2Proof.Machine
end

