-- ==== Sys2Proof/Machine/Operands.lean ====
section
/-! DEFINITION. The operand forms of the requests: selectors (R12, R13), clamped parameters, note ranges
(R168), and the show-clock comparison of R26. -/

namespace Sys2Proof

/-- A fire-class movement (R62). -/
def MoveKind.fireClass : MoveKind → Bool
  | .fire => true
  | .manual => true
  | _ => false

end Sys2Proof

namespace Sys2Proof.Machine

/-- R26: a due time `d` is reached at clock value `now`. -/
def reached (now d : Clock) : Bool := decide ((now - d).toNat < 2 ^ 31)

/-- The same for a due time that may not stand. DESIGN CHOICE, unsafe: notes/assumptions/5.md. -/
def dueReached (now : Clock) : Option Clock → Bool
  | some d => reached now d
  | none => false

/-- The tenths left before a due time, rounded down; 0 once it is reached (R24, R103). -/
def tenthsLeft (now d : Clock) : Nat := if reached now d then 0 else (d - now).toNat / 10

/-- A value clamped to lo..hi (scope file, Clamping and refusal). -/
def clamp (lo hi v : Nat) : Nat := max lo (min hi v)

/-- R12 and R13: a selector from its two bytes; none when a bit of bits 6..2 of byte 0 is set. -/
def decodeSelector (raw : Half) : Option Selector :=
  if raw.extractLsb' 10 5 = 0 then
    some { isLocal := raw.getLsbD 15
           rpl := ⟨(raw.extractLsb' 8 2).toNat, (raw.extractLsb' 8 2).isLt⟩
           index := ⟨(raw.extractLsb' 0 8).toNat, (raw.extractLsb' 0 8).isLt⟩ }
  else none

/-- R13: the selectors of a list, in list order. -/
def decodeSelectors : List Half → Option (List Selector)
  | [] => some []
  | r :: rs =>
    match decodeSelector r, decodeSelectors rs with
    | some x, some xs => some (x :: xs)
    | _, _ => none

/-- R12: the two bytes of a selector. -/
def encodeSelector (x : Selector) : Half :=
  (BitVec.ofBool x.isLocal) ++ (0 : BitVec 5) ++ (BitVec.ofNat 2 x.rpl) ++ (BitVec.ofNat 8 x.index)

/-- R13: the null selector is house index 0 with RPL 0. -/
def Selector.isNull (x : Selector) : Bool := !x.isLocal && x.rpl.val == 0 && x.index.val == 0

/-- R13: the effective level, the larger number of the station's CPL and the selector's RPL. -/
def effective (cpl rpl : Level) : Nat := max cpl.val rpl.val

/-- R168: a note's divisor and duration taken into their ranges. -/
def clampNote (divisor duration : Nat) : Note :=
  { divisor := clamp 250 2000 divisor, duration := clamp 1 40 duration }

/-- R168: a generator's tone in hertz, truncated. -/
def Note.hertz (n : Note) : Nat := 1000000 / (2 * n.divisor)

/-- R5: the staged field as it is read: a zone of kind STAGE is never staged. -/
def ZoneBody.reads (z : ZoneBody) : Bool := z.staged && decide (z.kind ≠ .stage)

/-- The type of a body (R4). -/
def Body.type : Body → EntryType
  | .zone _ => .zone
  | .line _ => .line
  | .channel _ => .channel
  | .circuit _ => .circuit
  | .curtain _ => .curtain
  | .gate _ => .gate
  | .preset _ => .preset
  | .script _ => .script

/-- R4: an entry's present field. -/
def Entry.present (e : Entry) : Bool := e.body.isSome

/-- R4: an entry's type field. -/
def Entry.type (e : Entry) : EntryType :=
  match e.body with
  | some b => b.type
  | none => e.blankType

/-- R28: the audience is present. -/
def Phase.audience : Phase → Bool
  | .dark => false
  | .prepare => false
  | _ => true

/-- R46: the curtain is moving. -/
def CurtainState.moving : CurtainState → Bool
  | .lowering => true
  | .raising => true
  | _ => false

/-- R166: the stages in which no call is started. -/
def Stage.clearing : Stage → Bool
  | .evacuate => true
  | .silenced => true
  | _ => false

/-- R87: the band of a line code. -/
def bandOf (code : Byte) : Band :=
  if code.toNat ≤ 15 then .opened
  else if code.toNat ≤ 95 then .normal
  else if code.toNat ≤ 199 then .alarm
  else .short

/-- R136: the reload value of a selected level at cycle length N. -/
def reloadOf (selected n : Nat) : Nat := (selected * 2 ^ n + 2047) / 4095

/-- R127 and R146: the level `k` of `n` ticks from `a` toward `b`, the division truncated toward zero. -/
def easeLevel (a b k n : Nat) : Nat :=
  (Int.ofNat a + Int.tdiv ((Int.ofNat b - Int.ofNat a) * Int.ofNat k) (Int.ofNat n)).toNat

/-- A count held at its top value. -/
def countUp (top n : Nat) : Nat := min top (n + 1)

end Sys2Proof.Machine
end

