-- ==== Sys2Proof/Machine/Codec.lean ====
section
/-! DEFINITION. What the host and the configuration memory see byte by byte: entry headers and bodies (R12, R23,
R204), the image (R199), and the contents of the reports (R191). Parsers answer none where R4, R199
or R204 has the part refuse. -/

namespace Sys2Proof.Machine

/-! ## Reading fields -/

/-- One byte as a number in lo..hi. -/
def get1 (lo hi : Nat) : List Byte → Option (Nat × List Byte)
  | a :: rest => if lo ≤ a.toNat ∧ a.toNat ≤ hi then some (a.toNat, rest) else none
  | [] => none

/-- Two bytes, high byte first, as a number in lo..hi. -/
def get2 (lo hi : Nat) : List Byte → Option (Nat × List Byte)
  | a :: b :: rest =>
    let v := a.toNat * 256 + b.toNat
    if lo ≤ v ∧ v ≤ hi then some (v, rest) else none
  | _ => none

/-- A yes/no byte of a written or stored field, 0 or 1. DESIGN CHOICE, unsafe: notes/assumptions/15.md. -/
def getFlag (l : List Byte) : Option (Bool × List Byte) :=
  (get1 0 1 l).map fun x => (x.1 == 1, x.2)

/-- A privilege level 0..3. DESIGN CHOICE, unsafe: notes/assumptions/17.md. -/
def getLevel (l : List Byte) : Option (Level × List Byte) :=
  (get1 0 3 l).map fun x => (Fin.ofNat 4 x.1, x.2)

/-- A selector of a written or stored body, whose reserved bits are zero (R13).
DESIGN CHOICE, unsafe: notes/assumptions/15.md. -/
def getSelector : List Byte → Option (Selector × List Byte)
  | a :: b :: rest => (decodeSelector (halfOf a b)).map (·, rest)
  | _ => none

/-- `n` items in a row. -/
def getMany {α : Type} (p : List Byte → Option (α × List Byte)) : Nat → List Byte → Option (List α × List Byte)
  | 0, l => some ([], l)
  | n + 1, l => do
    let (a, l) ← p l
    let (as, l) ← getMany p n l
    return (a :: as, l)

/-- A list: a count in lo..hi, then the items (R187). -/
def getList {α : Type} (lo hi : Nat) (p : List Byte → Option (α × List Byte)) (l : List Byte) :
    Option (List α × List Byte) := do
  let (n, l) ← get1 lo hi l
  getMany p n l

/-- An optional one-byte number: a presence byte, then the number in lo..hi, or a 0 (R187). Another filler than 0 does
not decode. DESIGN CHOICE, unsafe: notes/assumptions/15.md. -/
def getOptional (lo hi : Nat) (l : List Byte) : Option (Option Nat × List Byte) := do
  let (here, l) ← getFlag l
  if here then
    let (v, l) ← get1 lo hi l
    return (some v, l)
  else
    let (_, l) ← get1 0 0 l
    return (none, l)

/-! ## Entry headers and bodies -/

/-- R12: the number of an entry type. -/
def EntryType.code (t : EntryType) : Nat := t.ctorIdx + 1

/-- R12: the entry type of a number. -/
def entryTypeOf : Nat → Option EntryType
  | 1 => some .zone
  | 2 => some .line
  | 3 => some .channel
  | 4 => some .circuit
  | 5 => some .curtain
  | 6 => some .gate
  | 7 => some .preset
  | 8 => some .script
  | _ => none

/-- R2: the types that stand in a local table. -/
def EntryType.isLocal : EntryType → Bool
  | .preset => true
  | .script => true
  | _ => false

/-- R12: the header of an entry. -/
def Entry.header (e : Entry) : List Byte :=
  [BitVec.ofNat 8 e.type.code,
   BitVec.ofNat 8 ((if e.present then 128 else 0) + (if e.used then 64 else 0) + e.dpl.val)]

/-- R12: a header's type, present field and level; none when the type is unknown or one of bits 5..2 of the second
byte is set. The used flag is not taken (R18). DESIGN CHOICE, unsafe: notes/assumptions/15.md. -/
def decodeHeader (a b : Byte) : Option (EntryType × Bool × Level) :=
  if b.extractLsb' 2 4 = 0 then
    (entryTypeOf a.toNat).map fun t => (t, b.getLsbD 7, ⟨(b.extractLsb' 0 2).toNat, (b.extractLsb' 0 2).isLt⟩)
  else none

/-- R8 and R187: the override mask as a set of named flags. -/
def OverrideMask.code (m : OverrideMask) : Nat :=
  (if m.evac then 1 else 0) + (if m.fireLock then 2 else 0) + (if m.deskLoss then 4 else 0) +
    (if m.flick then 8 else 0)

/-- R162 and R187: the kind of a call, and its number as an optional field. -/
def CallKind.code : CallKind → Nat
  | .chime _ => 0
  | .message _ => 1
  | .flick => 2

/-- R162: the pattern or message number of a call; absent for FLICK. -/
def CallKind.number : CallKind → Option Nat
  | .chime p => some p
  | .message m => some m
  | .flick => none

/-- R176: a script step as R23 gives it and R199 stores it; its number, absent for FLICK, has a presence byte.
DESIGN CHOICE, unsafe: notes/assumptions/17.md. -/
def ScriptStep.bytes (x : ScriptStep) : List Byte :=
  be2 x.offset ++ be1 x.kind.code ++ optional 1 be1 x.kind.number ++
    counted (fun z => halfBytes (encodeSelector z)) x.zones ++ be1 x.repeats

/-- R23: the body fields of an entry, in the order of its type's table. -/
def Body.bytes : Body → List Byte
  | .zone z =>
    be1 z.kind.ctorIdx ++ flagByte z.staged ++ flagByte z.curtainTrigger ++ flagByte z.wholeHouse ++
      counted be1 z.channels ++ counted be1 z.circuits ++ be1 z.staffMessage
  | .line b => be1 b.line ++ be1 b.kind.ctorIdx ++ be1 b.zone ++ flagByte b.effectIsolatable
  | .channel c =>
    be1 c.output ++ be1 c.mask.code ++ be2 c.emergency ++ be2 c.hold ++ be2 c.flick ++ be2 c.start
  | .circuit c => be1 c.output ++ flagByte c.staff ++ flagByte c.programme
  | .curtain p =>
    be2 p.travel ++ be2 p.slowStart ++ be2 p.tLimit ++ be2 p.vMinFast ++ be2 p.vMaxFast ++
      be2 p.vMaxSlow ++ be2 p.vSlowNom ++ be2 p.tRaiseLimit ++ be2 p.vMinRaise
  | .gate g => be1 g.action.ctorIdx ++ be1 g.target.val ++ optional 1 be1 g.zone
  | .preset p =>
    be2 p.fade ++ counted (fun x => halfBytes (encodeSelector x.1) ++ be2 x.2) p.pairs
  | .script steps => counted ScriptStep.bytes steps

/-- R5: a ZONE body. -/
def getZone (l : List Byte) : Option (Body × List Byte) := do
  let (k, l) ← get1 0 3 l
  let (staged, l) ← getFlag l
  let (trigger, l) ← getFlag l
  let (whole, l) ← getFlag l
  let (channels, l) ← getList 0 8 (get1 0 127) l
  let (circuits, l) ← getList 0 4 (get1 0 127) l
  let (message, l) ← get1 1 255 l
  let kind : ZoneKind := if k = 0 then .audience else if k = 1 then .foyer else if k = 2 then .stage else .backstage
  return (.zone { kind, staged, curtainTrigger := trigger, wholeHouse := whole, channels, circuits,
                  staffMessage := message }, l)

/-- R7: a LINE body. -/
def getLine (l : List Byte) : Option (Body × List Byte) := do
  let (n, l) ← get1 0 31 l
  let (k, l) ← get1 0 1 l
  let (z, l) ← get1 1 127 l
  let (iso, l) ← getFlag l
  return (.line { line := n, kind := if k = 0 then .detector else .callPoint, zone := z, effectIsolatable := iso }, l)

/-- R8: a CHANNEL body; a mask byte with one of bits 7..4 set does not decode.
DESIGN CHOICE, unsafe: notes/assumptions/15.md. -/
def getChannel (l : List Byte) : Option (Body × List Byte) := do
  let (n, l) ← get1 0 47 l
  let (m, l) ← get1 0 15 l
  let (emergency, l) ← get2 0 4095 l
  let (hold, l) ← get2 0 4095 l
  let (flick, l) ← get2 0 4095 l
  let (start, l) ← get2 0 4095 l
  let mask : OverrideMask :=
    { evac := m.testBit 0, fireLock := m.testBit 1, deskLoss := m.testBit 2, flick := m.testBit 3 }
  return (.channel { output := n, mask, emergency, hold, flick, start }, l)

/-- R9: a CIRCUIT body. -/
def getCircuit (l : List Byte) : Option (Body × List Byte) := do
  let (n, l) ← get1 0 15 l
  let (staff, l) ← getFlag l
  let (programme, l) ← getFlag l
  return (.circuit { output := n, staff, programme }, l)

/-- R10: the relations between the curtain parameters, and each one's range. -/
def CurtainParams.inRange (p : CurtainParams) : Bool :=
  decide (1000 ≤ p.travel ∧ p.travel ≤ 60000 ∧ p.travel ≤ 2 * p.slowStart ∧ p.slowStart + 100 ≤ p.travel ∧
    50 ≤ p.tLimit ∧ p.tLimit ≤ 600 ∧ 1 ≤ p.vMinFast ∧ p.vMinFast < p.vMaxFast ∧ p.vMaxFast ≤ 2000 ∧
    1 ≤ p.vMaxSlow ∧ p.vMaxSlow ≤ 2000 ∧ 1 ≤ p.vSlowNom ∧ p.vSlowNom ≤ p.vMaxSlow ∧
    100 ≤ p.tRaiseLimit ∧ p.tRaiseLimit ≤ 1200 ∧ 1 ≤ p.vMinRaise ∧ p.vMinRaise ≤ 2000)

/-- R10: a CURTAIN body. -/
def getCurtain (l : List Byte) : Option (Body × List Byte) := do
  let (travel, l) ← get2 0 65535 l
  let (slowStart, l) ← get2 0 65535 l
  let (tLimit, l) ← get2 0 65535 l
  let (vMinFast, l) ← get2 0 65535 l
  let (vMaxFast, l) ← get2 0 65535 l
  let (vMaxSlow, l) ← get2 0 65535 l
  let (vSlowNom, l) ← get2 0 65535 l
  let (tRaiseLimit, l) ← get2 0 65535 l
  let (vMinRaise, l) ← get2 0 65535 l
  let p : CurtainParams :=
    { travel, slowStart, tLimit, vMinFast, vMaxFast, vMaxSlow, vSlowNom, tRaiseLimit, vMinRaise }
  if p.inRange then return (.curtain p, l) else none

/-- R11: a GATE body; the zone stands for MANUAL_CALL and for no other action. -/
def getGate (l : List Byte) : Option (Body × List Byte) := do
  let (a, l) ← get1 0 2 l
  let (target, l) ← getLevel l
  let (zone, l) ← getOptional 1 127 l
  let action : GateAction := if a = 0 then .manualCall else if a = 1 then .manualDrop else .alarmAck
  if zone.isSome = (a == 0) then return (.gate { action, target, zone }, l) else none

/-- R130: one pair of a PRESET. -/
def getPair (l : List Byte) : Option ((Selector × Nat) × List Byte) := do
  let (x, l) ← getSelector l
  let (v, l) ← get2 0 4095 l
  return ((x, v), l)

/-- R130: a PRESET body. -/
def getPreset (l : List Byte) : Option (Body × List Byte) := do
  let (fade, l) ← get2 0 6000 l
  let (pairs, l) ← getList 1 16 getPair l
  return (.preset { fade, pairs }, l)

/-- R162 and R164: a call kind from its two numbers; none when one is out of range. -/
def callKindOf (kind : Nat) (number : Option Nat) : Option CallKind :=
  match kind, number with
  | 0, some p => if p ≤ 7 then some (.chime p) else none
  | 1, some m => if m = 0 then none else some (.message m)
  | 2, none => some .flick
  | _, _ => none

/-- R176: one step of a SCRIPT; its number has a presence byte, 0 for FLICK.
DESIGN CHOICE, unsafe: notes/assumptions/17.md. -/
def getStep (l : List Byte) : Option (ScriptStep × List Byte) := do
  let (offset, l) ← get2 0 3600 l
  let (k, l) ← get1 0 2 l
  let (n, l) ← getOptional 0 255 l
  let kind ← callKindOf k n
  let (zones, l) ← getList 1 4 getSelector l
  let (repeats, l) ← get1 1 5 l
  return ({ offset, kind, zones, repeats }, l)

/-- R176: a SCRIPT body. -/
def getScript (l : List Byte) : Option (Body × List Byte) := do
  let (steps, l) ← getList 1 8 getStep l
  return (.script steps, l)

/-- R204: the body of a type. -/
def getBody : EntryType → List Byte → Option (Body × List Byte)
  | .zone => getZone
  | .line => getLine
  | .channel => getChannel
  | .circuit => getCircuit
  | .curtain => getCurtain
  | .gate => getGate
  | .preset => getPreset
  | .script => getScript

/-- R199 and R204: a header and, when its present field is yes, the body of its type. The entry's used
flag is clear. -/
def getEntry (local? : Bool) : List Byte → Option (Entry × List Byte)
  | a :: b :: rest => do
    let (t, present, dpl) ← decodeHeader a b
    if t.isLocal = local? then
      if present then
        let (body, rest) ← getBody t rest
        return ({ body := some body, blankType := t, dpl, used := false }, rest)
      else return ({ body := none, blankType := t, dpl, used := false }, rest)
    else none
  | _ => none

/-- R199: an entry as the image stores it: its header, used no, and its body when it is present. -/
def Entry.stored (e : Entry) : List Byte :=
  Entry.header { e with used := false } ++ (match e.body with | some b => b.bytes | none => [])

/-! ## The configuration image -/

/-- R168: one note as it is stored. -/
def Note.bytes (n : Note) : List Byte := be2 n.divisor ++ be1 n.duration

/-- R168: a stored note, taken into its ranges. -/
def getNote (l : List Byte) : Option (Note × List Byte) := do
  let (d, l) ← get2 0 65535 l
  let (t, l) ← get1 0 255 l
  return (clampNote d t, l)

/-- R199: section 2, present and CPL of stations 0..15. -/
def Tables.stationSection (t : Tables) : List Byte :=
  t.stations.toList.flatMap fun r => flagByte r.present ++ be1 r.cpl.val

/-- R199: section 3, the house limit and every entry below it. -/
def Tables.houseSection (t : Tables) : List Byte :=
  be1 t.limit ++ (t.house.toList.take t.limit).flatMap Entry.stored

/-- R199: section 4, 16 entries for each station 1..15. -/
def Tables.localSection (t : Tables) : List Byte :=
  (t.locals.toList.drop 1).flatMap fun v => v.toList.flatMap Entry.stored

/-- R199: section 5, the chime patterns. -/
def Tables.patternSection (t : Tables) : List Byte :=
  t.patterns.toList.flatMap fun p => counted Note.bytes p

/-- R199: section 6, the parameters. -/
def Tables.paramSection (t : Tables) : List Byte :=
  be1 t.params.tAck ++ be2 t.params.tInv ++ be1 t.params.message ++ be1 t.params.cycle

/-- R199: the image of the tables: header, sections 2 to 6, and the CRC over all of them. -/
def encodeImage (t : Tables) : List Byte :=
  let sections := [t.stationSection, t.houseSection, t.localSection, t.patternSection, t.paramSection]
  let body := be1 1 ++ sections.flatMap (fun x => be2 x.length) ++ sections.flatten
  body ++ halfBytes (crc16 body)

/-- An entry that is not present, of a given header type. DESIGN CHOICE, unsafe: notes/assumptions/8.md. -/
def blankEntry (t : EntryType) : Entry := { body := none, blankType := t, dpl := 0, used := false }

/-- R199: section 2 parsed; station 0 is never present (R1). -/
def getStations (l : List Byte) : Option (Vector StationRec 16) := do
  let (rs, l) ← getMany (fun l => do
    let (p, l) ← getFlag l
    let (c, l) ← getLevel l
    return (({ present := p, cpl := c } : StationRec), l)) 16 l
  if l = [] ∧ (rs.map StationRec.present).headD true = false then
    return Vector.ofFn fun i => rs.getD i { present := false, cpl := 0 }
  else none

/-- R199: section 3 parsed; entry 0 is never present (R3). -/
def getHouse (l : List Byte) : Option (Nat × Vector Entry 128) := do
  let (limit, l) ← get1 1 128 l
  let (es, l) ← getMany (getEntry false) limit l
  if l = [] ∧ (es.map Entry.present).headD true = false then
    return (limit, Vector.ofFn fun i => es.getD i (blankEntry .zone))
  else none

/-- R199: section 4 parsed. -/
def getLocals (l : List Byte) : Option (Vector (Vector Entry 16) 16) := do
  let (es, l) ← getMany (getMany (getEntry true) 16) 15 l
  if l = [] then
    return Vector.ofFn fun i => Vector.ofFn fun j =>
      if i.val = 0 then blankEntry .preset else (es.getD (i.val - 1) []).getD j (blankEntry .preset)
  else none

/-- R199: section 5 parsed. -/
def getPatterns (l : List Byte) : Option (Vector (List Note) 8) := do
  let (ps, l) ← getMany (getList 1 4 getNote) 8 l
  if l = [] then return Vector.ofFn fun i => ps.getD i [] else none

/-- R199: section 6 parsed. -/
def getParams (l : List Byte) : Option Params := do
  let (tAck, l) ← get1 10 120 l
  let (tInv, l) ← get2 60 600 l
  let (message, l) ← get1 1 255 l
  let (cycle, l) ← get1 8 11 l
  if l = [] then return { tAck, tInv, message, cycle } else none

/-- A section of the image: `n` bytes from `at`. -/
def sliceOf (l : List Byte) (start n : Nat) : List Byte := (l.drop start).take n

/-- R199: the contents of an image whose header and CRC have passed.
DESIGN CHOICE, unsafe: notes/assumptions/13.md. -/
def getTables (l : List Byte) (lens : List Nat) : Option Tables := do
  let n := fun k => lens.getD k 0
  let stations ← getStations (sliceOf l 11 (n 0))
  let (limit, house) ← getHouse (sliceOf l (11 + n 0) (n 1))
  let locals ← getLocals (sliceOf l (11 + n 0 + n 1) (n 2))
  let patterns ← getPatterns (sliceOf l (11 + n 0 + n 1 + n 2) (n 3))
  let params ← getParams (sliceOf l (11 + n 0 + n 1 + n 2 + n 3) (n 4))
  return { stations, limit, house, locals, patterns, params }

/-! ## Sets of flags and small encodings -/

/-- R187: the fault flags as a set. -/
def faultSet (l : List FaultFlag) : List Byte :=
  be1 ((if l.contains .underspeed then 1 else 0) + (if l.contains .overspeed then 2 else 0) +
    (if l.contains .dashpot then 4 else 0) + (if l.contains .stall then 8 else 0) +
    (if l.contains .overtime then 16 else 0) + (if l.contains .raiseStall then 32 else 0) +
    (if l.contains .raiseOvertime then 64 else 0))

/-- R187: the warn flags as a set. -/
def warnSet (l : List WarnFlag) : List Byte :=
  be1 ((if l.contains .late then 1 else 0) + (if l.contains .obstructed then 2 else 0) +
    (if l.contains .encoderMismatch then 4 else 0))

/-- R192: the group inhibits as a set. -/
def Inhibits.bytes (x : Inhibits) : List Byte :=
  be1 ((if x.drive then 1 else 0) + (if x.lighting then 2 else 0) + (if x.audio then 4 else 0) +
    (if x.sounders then 8 else 0))

/-- R46: the fault reason, LIMITS_BOTH first and then the flags. DESIGN CHOICE, unsafe: notes/assumptions/17.md. -/
def FaultReason.code : FaultReason → Nat
  | .limitsBoth => 0
  | .flag f => f.ctorIdx + 1

/-- R97: the origin of an alarm entry and its source. -/
def Origin.bytes : Origin → List Byte
  | .line n => be1 0 ++ be1 n
  | .gate i => be1 1 ++ be1 i

/-- R102: an alarm entry. -/
def AlarmEntry.bytes (e : AlarmEntry) : List Byte :=
  e.origin.bytes ++ be1 e.zone ++ clockBytes e.time ++ flagByte e.staged

/-- R107: the first alarm: origin, source, zone and staged field. -/
def AlarmEntry.shortBytes (e : AlarmEntry) : List Byte := e.origin.bytes ++ be1 e.zone ++ flagByte e.staged

/-- R187: a set of circuit outputs. -/
def circuitBytes (m : CircuitSet) : List Byte := be2 m.toNat

/-- R198: the image status, VALID or DEFAULT. -/
def statusByte (valid : Bool) : List Byte := be1 (if valid then 0 else 1)

/-- R162: the origin of a call and its interval number. -/
def CallOrigin.bytes : CallOrigin → List Byte
  | .direct => [0, 0, 0]
  | .script n => [1, 1] ++ be1 n

/-- R50: a movement record in the order of R48; `duration` is given apart, since the open record shows the
elapsed count as it stands (R74). -/
def MoveRec.bytes (r : MoveRec) (duration : Nat) : List Byte :=
  be1 r.kind.ctorIdx ++ clockBytes r.start ++ optional 4 clockBytes r.stop ++ be2 duration ++
    optional 1 (fun o : MoveOutcome => be1 o.ctorIdx) r.outcome ++ faultSet r.faults ++ warnSet r.warns ++
    flagByte r.held ++ optional 2 be2 r.slowEntry ++ be2 r.fastMax ++ be2 r.slowMax

/-- R69: a closed record in a MOVEMENT report, with the start position of R70 at its end.
DESIGN CHOICE, unsafe: notes/assumptions/22.md. -/
def MoveRec.reportBytes (r : MoveRec) : List Byte :=
  be1 r.kind.ctorIdx ++ clockBytes r.start ++ clockBytes (r.stop.getD 0) ++ be2 r.duration ++
    be1 ((r.outcome.map MoveOutcome.ctorIdx).getD 0) ++ faultSet r.faults ++ warnSet r.warns ++
    flagByte r.held ++ optional 2 be2 r.slowEntry ++ be2 r.fastMax ++ be2 r.slowMax ++ be2 r.startPosition

/-- R150: the supervision record and DESK_LOSS, its optional fields as R192 gives them. -/
def Supervision.bytes (x : Supervision) (deskLoss : Bool) : List Byte :=
  flagByte x.enabled ++ flagByte x.locked ++ be1 x.window ++
    optional 1 (fun i : Station => be1 i.val) x.station ++ optional 4 clockBytes x.deadline ++ flagByte deskLoss

/-- R163: a call record, every field of R162. -/
def Call.bytes (c : Call) : List Byte :=
  [c.id] ++ be1 c.owner.val ++ c.origin.bytes ++ be4 c.entryNo ++ clockBytes c.due ++ be1 c.kind.code ++
    optional 1 be1 c.kind.number ++ counted be1 c.zones ++ be1 c.repeats ++ be1 c.state.ctorIdx ++
    optional 1 (fun i : Fin 2 => be1 i.val) c.source ++
    optional 2 circuitBytes (if c.state = .playing then some c.granted else none) ++
    circuitBytes c.missed ++ be1 c.done

/-- R38: the performance record, each optional field preceded by a presence byte (R42). -/
def Performance.bytes (p : Performance) : List Byte :=
  be1 p.phase.ctorIdx ++ be1 p.act ++ be1 p.interval ++ optional 4 clockBytes p.intervalEnd ++
    optional 4 clockBytes p.houseOpen ++ be1 p.iron.ctorIdx ++ optional 2 be2 p.ironDuration ++
    be2 p.alerts ++ flagByte p.evacuated ++ be2 p.deskLosses ++ be2 p.abandoned

/-- R16: the access fault record. -/
def AccessFault.bytes (f : AccessFault) : List Byte :=
  be1 (f.kind.ctorIdx + 1) ++ flagByte f.isLocal ++ be1 f.index ++ flagByte f.fromRecord ++ be1 f.item ++ be1 f.sub

/-! ## Reports -/

/-- R191: the number of a report kind. -/
def Report.kind (r : Report) : Nat := r.ctorIdx + 1

/-- R96: the cause of an ISOLATION report, EXPIRY or CLOSE_HOUSE. -/
def isolationCause : LineCause → Nat
  | .closeHouse => 1
  | _ => 0

/-- R173: the number of a reason within the list of its event. DESIGN CHOICE, unsafe: notes/assumptions/17.md. -/
def CallReason.code : CallReason → Nat
  | .stale => 0
  | .preempted => 1
  | .evacuation => 2
  | .player => 3
  | .noCircuits => 4
  | .request => 0
  | .beginAct => 1
  | .closeHouse => 2
  | .closed => 0
  | .limit => 1

/-- R203: the number of an IMAGE report's reason: of a FAILED write VERIFY or NO_RESPONSE, of a reload the
default reason. DESIGN CHOICE, unsafe: notes/assumptions/17.md. -/
def ImageReason.code : ImageReason → Nat
  | .verify => 0
  | .noAnswer => 1
  | .default r => r.ctorIdx

/-- R29: the cause of a PHASE report: the request code, or 0 for INTERVAL_DUE.
DESIGN CHOICE, unsafe: notes/assumptions/17.md. -/
def PhaseCause.code : PhaseCause → Nat
  | .request c => c
  | .intervalDue => 0

/-- R69 and R81: the number of the flag of a CURTAIN_WARN report. DESIGN CHOICE, unsafe: notes/assumptions/17.md. -/
def WarnReport.code : WarnReport → Nat
  | .warn .obstructed => 0
  | .warn .late => 1
  | .fault f => f.ctorIdx + 2
  | .warn .encoderMismatch => 9

/-- R107: a STAGE report. DESIGN CHOICE, unsafe: notes/assumptions/17.md. -/
def StageReport.bytes (r : StageReport) : List Byte :=
  be1 r.previous.ctorIdx ++ be1 r.stage.ctorIdx ++ be1 r.cause.ctorIdx ++ be1 r.station.val ++
    optional 3 (fun x : Nat × Origin => be1 x.1 ++ x.2.bytes) r.entry ++ optional 1 be1 r.gate ++ be1 r.count ++
    optional 4 AlarmEntry.shortBytes r.first ++ optional 4 clockBytes r.due ++ optional 4 clockBytes r.knockEnd ++
    flagByte r.sounders ++ flagByte r.fireSent

/-- R68: a CURTAIN report. DESIGN CHOICE, unsafe: notes/assumptions/17.md. -/
def CurtainReport.bytes (r : CurtainReport) : List Byte :=
  be1 r.previous.ctorIdx ++ be1 r.state.ctorIdx ++ be1 r.cause.ctorIdx ++
    optional 1 (fun k : MoveKind => be1 k.ctorIdx) r.record ++ be2 r.position ++
    flagByte r.lock.isSome ++ optional 1 (fun c : LockCause => be1 c.ctorIdx) r.lock ++
    flagByte r.permit.isSome ++ optional 4 clockBytes r.permit ++
    optional 1 (fun x : FaultReason => be1 x.code) r.reason

/-- R173: the subject of a CALL report. -/
def CallSubject.bytes : CallSubject → List Byte
  | .call c _ =>
    be1 0 ++ [c.id] ++ be1 c.owner.val ++ c.origin.bytes ++ be1 c.kind.code ++ optional 1 be1 c.kind.number ++
      counted be1 c.zones ++ clockBytes c.due ++ be1 c.repeats
  | .page owner zones => be1 1 ++ be1 owner.val ++ counted be1 zones

/-- R173: a CALL report. The outputs owned of a flick and the circuits lost of a partial loss stand in their own case
alone, with no presence byte. DESIGN CHOICE, unsafe: notes/assumptions/23.md. -/
def CallReport.bytes (r : CallReport) : List Byte :=
  r.subject.bytes ++ be1 r.event.ctorIdx ++ optional 1 (fun x : CallReason => be1 x.code) r.reason ++
    circuitBytes r.granted ++ circuitBytes r.missed ++
    (match r.subject with
      | .call c owned => be1 c.done ++ (if c.kind = .flick then be1 owned else [])
      | .page _ _ => []) ++
    (if r.event = .partialLoss then circuitBytes r.lost else [])

/-- R191: the subject and data of a report. The end of a timed isolation, always there in an ISOLATION report (R96), is
the record's optional field (R86) and has its presence byte. DESIGN CHOICE, unsafe: notes/assumptions/17.md. -/
def Report.bytes : Report → List Byte
  | .start valid reason lr img limit stations =>
    statusByte valid ++ optional 1 (fun x : DefaultReason => be1 x.ctorIdx) reason ++ be1 lr.val ++ flagByte img ++
      be1 limit ++ be1 stations
  | .phase was becomes cause station act interval intervalEnd =>
    be1 was.ctorIdx ++ be1 becomes.ctorIdx ++ be1 cause.code ++ be1 station.val ++ be1 act ++ be1 interval ++
      optional 4 clockBytes intervalEnd
  | .summary record missed => record.bytes ++ flagByte missed
  | .stage r => r.bytes
  | .line r =>
    be1 r.line ++ be1 r.entry ++ be1 r.zone ++ be1 r.previous.ctorIdx ++ be1 r.state.ctorIdx ++
      be1 r.cause.ctorIdx ++ optional 1 (fun c : Byte => [c]) r.last
  | .isolation r =>
    be1 r.line ++ be1 r.entry ++ be1 r.isolation.kind.ctorIdx ++ clockBytes r.isolation.start ++
      optional 4 clockBytes r.isolation.stop ++ be1 r.isolation.station.val ++ be1 (isolationCause r.cause)
  | .curtain r => r.bytes
  | .movement r => r.reportBytes
  | .curtainWarn flag k at0 pos elapsed =>
    be1 flag.code ++ be1 k.ctorIdx ++ clockBytes at0 ++ be2 pos ++ be2 elapsed
  | .desk r => be1 r.event.ctorIdx ++ be1 r.station.val ++ r.sup.bytes r.deskLoss
  | .call r => r.bytes
  | .inhibit group now station all => be1 group.ctorIdx ++ flagByte now ++ be1 station.val ++ all.bytes
  | .image event reason valid comm station =>
    be1 event.ctorIdx ++ optional 1 (fun x : ImageReason => be1 x.code) reason ++ statusByte valid ++
      be1 comm.ctorIdx ++ be1 station.val

/-! ## Frames -/

/-- R181: a frame on the line: sync, length byte, the n bytes, and the CRC over length and bytes. -/
def frameOf (body : List Byte) : List Byte :=
  let checked := be1 body.length ++ body
  0xC3 :: checked ++ halfBytes (crc16 checked)

/-- R181 and R190: a report frame with its overrun marker. -/
def reportFrame (marker : Bool) (stamp : Clock) (r : Report) : List Byte :=
  frameOf (be1 0x20 ++ flagByte marker ++ be1 r.kind ++ clockBytes stamp ++ r.bytes)

/-- R186: the number of parts of a reply. -/
def Reply.parts (r : Reply) : Nat := max 1 ((r.data.length + (Config.partBytes - 1)) / Config.partBytes)

/-- R181 and R186: one part of a reply; bit 7 of the part byte marks the last. -/
def Reply.frame (r : Reply) (part : Nat) : List Byte :=
  frameOf (be1 (0x10 + r.hdr.station.val) ++ [r.hdr.tag, r.code] ++ be1 r.status.ctorIdx ++
    be1 (part + (if part + 1 < r.parts then 0 else 128)) ++
    sliceOf r.data (part * Config.partBytes) Config.partBytes)

/-- R181: a frame-error frame. -/
def FrameError.frame (e : FrameError) : List Byte :=
  frameOf (be1 (0x30 + e.station.val) ++ [e.tag] ++ be1 (e.reason.ctorIdx + 1) ++ be1 e.count)

end Sys2Proof.Machine
end

