-- ==== Sys2Proof/Machine/Defaults.lean ====
section
/-! DEFINITION. The safe default configuration (R200), built into the controller. -/

namespace Sys2Proof.Machine

/-- R10: the safe default curtain parameters. -/
def defaultCurtain : CurtainParams :=
  { travel := 24000, slowStart := 20000, tLimit := 300, vMinFast := 80, vMaxFast := 200, vMaxSlow := 60,
    vSlowNom := 40, tRaiseLimit := 600, vMinRaise := 30 }

/-- A present entry of DPL 0, used no (R200). -/
def defaultEntry (b : Body) : Entry := { body := some b, blankType := b.type, dpl := 0, used := false }

/-- R200: the house entry at an index. -/
def defaultHouse (i : Nat) : Entry :=
  if i = 1 then
    defaultEntry (.zone { kind := .audience, staged := false, curtainTrigger := true, wholeHouse := true,
                          channels := [], circuits := [], staffMessage := 2 })
  else if 2 ≤ i ∧ i ≤ 33 then
    defaultEntry (.line { line := i - 2, kind := .detector, zone := 1, effectIsolatable := false })
  else if 34 ≤ i ∧ i ≤ 81 then
    defaultEntry (.channel { output := i - 34,
                             mask := { evac := true, fireLock := true, deskLoss := false, flick := false },
                             emergency := 4095, hold := 4095, flick := 4095, start := 4095 })
  else if 82 ≤ i ∧ i ≤ 97 then
    defaultEntry (.circuit { output := i - 82, staff := true, programme := false })
  else if i = 98 then defaultEntry (.curtain defaultCurtain)
  else blankEntry .zone

/-- R200: station 1 present at CPL 0, no other station present. -/
def defaultStation (i : Nat) : StationRec := { present := i == 1, cpl := 0 }

/-- R168 and R200: every pattern is one note of divisor 1000 and duration 10. -/
def defaultPattern : List Note := [{ divisor := 1000, duration := 10 }]

/-- R200: T_ack 30 s, T_inv 180 s, evacuation message 1, N 10. -/
def defaultParams : Params := { tAck := 30, tInv := 180, message := 1, cycle := 10 }

/-- R200: the safe default configuration. -/
def Tables.default : Tables :=
  { stations := Vector.ofFn fun i => defaultStation i.val
    limit := 99
    house := Vector.ofFn fun i => defaultHouse i.val
    locals := Vector.ofFn fun _ => Vector.ofFn fun _ => blankEntry .preset
    patterns := Vector.ofFn fun _ => defaultPattern
    params := defaultParams }

end Sys2Proof.Machine
end

