-- ==== Sys2Proof/Machine/State.lean ====
section
/-! DEFINITION. The state of the KS-620: the state of its nine blocks, the queue of commands that wait, and the
notices that one block has handed to another and the other has not yet taken (R106). -/

namespace Sys2Proof.Machine

/-- The whole machine. `pending` is the queue of waiting commands, first in, first out, `notices` the notices not
yet taken, and `inputs` the levels that the curtain's field inputs will take at the ticks to come, from outside:
the three are the model's own fields. `inReset` stands from the start of reset until reset ends (R180, R206). -/
structure State where
  pending : List Instr
  notices : List Instr
  inputs : List Pins
  inReset : Bool
  clock : Clock
  tab : Tables
  paired : Vector (Option Paired) 16
  perf : Performance
  watch : Bool
  cc : Curtain
  al : Alarm
  le : Lighting
  os : Overrides
  cu : Calls
  dl : Link
  im : Maint
  deriving DecidableEq, Repr

/-- The reasons a step can stop with a fault. The spec gives every command an effect in every state, so no
meaning raises one: the type has no member. DEDUCED, unsafe: notes/assumptions/1.md. -/
inductive Fault
  deriving DecidableEq, Repr

/-- The reasons a step can refuse a command. -/
inductive Refusal where
  /-- Raised by `exec` for a row of the opcode table that has no meaning yet: safe, since nothing can be
  proved of what it does. No arm raises it. -/
  | notModelled (mnemonic : String)
  deriving DecidableEq, Repr

/-- The outcome of a command. -/
abbrev Out := Host.Outcome State Fault Refusal

/-- R38: the cleared performance record, with the phase being entered. -/
def Performance.cleared (p : Phase) : Performance :=
  { phase := p, act := 0, interval := 0, intervalEnd := none, houseOpen := none, iron := .none,
    ironDuration := none, alerts := 0, evacuated := false, deskLosses := 0, abandoned := 0 }

/-- R86: a line record after reset. -/
def LineRec.reset : LineRec :=
  { state := .normal, last := none, present := none, candidate := none, run := 0, isolation := none }

/-- R125: a channel record after reset. -/
def Channel.reset : Channel :=
  { primary := 4095, fade := none, selected := 4095, reload := 1024, high := 1024 }

/-- R46: the curtain after reset, before its inputs are read. Its state until reset ends, which R46 does not give,
is PARKED. DESIGN CHOICE, unsafe: notes/assumptions/8.md. -/
def Curtain.reset : Curtain :=
  { position := 0, top := false, bottom := false, settingClear := false, driveReady := false,
    state := .parked, reason := none, lock := none, permit := none, move := none, heldExpiry := none, log := [] }

/-- R86, R97, R104: the Alarm Unit after reset. -/
def Alarm.reset : Alarm :=
  { lines := Vector.ofFn fun _ => LineRec.reset, list := [], stage := .quiet, enteredAt := 0, ackDue := none,
    invDue := none, ackBy := none, knockEnd := none, sounders := false }

/-- R125, R131, R135: the Lighting Engine after reset. -/
def Lighting.reset : Lighting :=
  { channels := Vector.ofFn fun _ => Channel.reset, cues := Vector.ofFn fun _ => none, cycle := 10,
    pendingCycle := none, counter := 0, forced := true, tickCount := 0, fadeHalf := false }

/-- R150: supervision after reset. -/
def Supervision.reset : Supervision :=
  { enabled := false, locked := false, window := 1, station := none, deadline := none }

/-- R142: the Override Selector after reset. -/
def Overrides.reset : Overrides :=
  { evac := false, fireLock := false, deskLoss := false, flick := 0,
    selections := Vector.ofFn fun _ => { source := .primary, transition := none }, sup := Supervision.reset }

/-- R156, R162, R163: the Call Unit after reset. -/
def Calls.reset : Calls :=
  { circuits := Vector.ofFn fun _ => { holder := none, programme := false }
    generators := Vector.ofFn fun _ => { holder := none, note := none }
    channels := Vector.ofFn fun _ => { holder := none, trigger := false, number := 0, limit := none }
    page := none, evacuation := none, staff := none, queue := [], nextId := 0, nextEntry := 0,
    flickOwner := Vector.ofFn fun _ => none }

/-- R180: the Desk Link after reset. DESIGN CHOICE, unsafe: notes/assumptions/8.md. -/
def Link.reset : Link :=
  { rx := .hunt, n := 0, bytes := [], buffer := [], slot := none, reports := [], overrun := false,
    overflow := 0, nextOrder := 0, line := none, restarting := false }

/-- R198: Image and Maintenance after reset. DESIGN CHOICE, unsafe: notes/assumptions/8.md. -/
def Maint.reset : Maint :=
  { lr := 0, img := false, starting := true, loadDue := none, valid := false, reason := none, comm := .closed,
    work := none, inhibit := { drive := false, lighting := false, audio := false, sounders := false } }

/-- The machine as a power-on reset leaves it (R206): every block's state at its reset value, the safe
default tables standing (R3), and reset not yet ended; RESET_END, the next event, reads the straps and
the field inputs. DESIGN CHOICE, unsafe: notes/assumptions/6.md. -/
def State.reset : State :=
  { pending := [], notices := [], inputs := [], inReset := true, clock := 0, tab := Tables.default,
    paired := Vector.ofFn fun _ => none, perf := Performance.cleared .dark, watch := false,
    cc := Curtain.reset, al := Alarm.reset, le := Lighting.reset, os := Overrides.reset, cu := Calls.reset,
    dl := Link.reset, im := Maint.reset }

end Sys2Proof.Machine
end

