-- ==== Sys2Proof/Machine/Ops.lean ====
section
/-! DEFINITION. The operations the blocks share: producing a report or a reply, handing and taking a notice,
looking things up in the tables (R3 to R9), the access check (R13 to R18), and how a request is taken
and handled (R184, R185). -/

namespace Sys2Proof.Machine

/-! ## Reports, notices and replies -/

/-- R190: a report joins the queue at its newest end; a full queue loses its oldest. -/
def Link.addReport (d : Link) (now : Clock) (r : Report) : Link :=
  { d with
    reports := (if Config.reportRecords ≤ d.reports.length then d.reports.drop 1 else d.reports) ++
      [{ order := d.nextOrder, stamp := now, report := r }]
    overrun := d.overrun || decide (Config.reportRecords ≤ d.reports.length)
    nextOrder := d.nextOrder + 1 }

/-- R194: START is placed at the oldest end; a full queue loses its oldest first. START takes the age of the
report it goes ahead of. DESIGN CHOICE, unsafe: notes/assumptions/12.md. -/
def Link.addStart (d : Link) (now : Clock) (r : Report) : Link :=
  let rest := if Config.reportRecords ≤ d.reports.length then d.reports.drop 1 else d.reports
  { d with
    reports := { order := (rest.head?.map Queued.order).getD d.nextOrder, stamp := now, report := r } :: rest
    overrun := d.overrun || decide (Config.reportRecords ≤ d.reports.length)
    nextOrder := d.nextOrder + 1 }

/-- A block produces a report (R190). -/
def State.addReport (r : Report) (s : State) : State := { s with dl := s.dl.addReport s.clock r }

/-- A block hands a notice to another, which takes it as an event of its own (R106). -/
def State.notify (i : Instr) (s : State) : State := { s with notices := s.notices ++ [i] }

/-- A notice handed on when a condition holds. -/
def State.notifyIf (c : Bool) (i : Instr) (s : State) : State := if c then s.notify i else s

/-- A block takes a notice: the oldest one like it no longer waits. -/
def State.takeNotice (i : Instr) (s : State) : State := { s with notices := s.notices.erase i }

/-- R184 and R189: a frame is placed in the reply slot. -/
def Link.putSlot (d : Link) (o : Outgoing) : Link :=
  { d with slot := some { order := d.nextOrder, what := o }, nextOrder := d.nextOrder + 1 }

/-- R186: the reply to a request goes into the reply slot. -/
def State.putReply (h : Hdr) (code : Byte) (a : Answer) (s : State) : State :=
  { s with dl := s.dl.putSlot (.reply { hdr := h, code, status := a.status, data := a.data } 0) }

/-- R184: an item joins the receive buffer, or is discarded and counted when 8 wait. -/
def Link.addItem (d : Link) (x : RxItem) : Link :=
  if Config.receiveItems ≤ d.buffer.length then { d with overflow := countUp 255 d.overflow }
  else { d with buffer := d.buffer ++ [x] }

/-! ## Answers -/

/-- What a block does with a request that reaches it: its effect and its answer. -/
abbrev Handler := State → State × Answer

/-- The answer OK with its data. -/
def Answer.ok (data : List Byte) : Answer := { status := .ok, data }

/-- The answer W_PARTIAL with its data. -/
def Answer.part (data : List Byte) : Answer := { status := .wPartial, data }

/-- A refusal that carries no data (R186). -/
def Answer.refuse (x : Status) : Answer := { status := x, data := [] }

/-- E_ACCESS with its access fault record (R186). -/
def Answer.deny (f : AccessFault) : Answer := { status := .eAccess, data := f.bytes }

/-- A request refused with a status: nothing changes. -/
def refused (x : Status) : Handler := fun s => (s, .refuse x)

/-- Tests one condition of an owning rule, with the status that refuses when it fails. -/
def need (c : State → Bool) (x : Status) (k : Handler) : Handler := fun s =>
  if c s then k s else (s, .refuse x)

/-! ## Table lookups -/

/-- R3: the present house entry at an index; entry 0 and the entries at or above the limit are not present. -/
def Tables.house? (t : Tables) (i : Nat) : Option Entry :=
  if h : i < 128 then
    if i ≠ 0 ∧ i < t.limit ∧ t.house[i].present = true then some t.house[i] else none
  else none

/-- The present entry of a local table at an index (R2). -/
def Tables.local? (t : Tables) (st : Station) (i : Nat) : Option Entry :=
  if h : i < 16 then
    if t.locals[st][i].present = true then some t.locals[st][i] else none
  else none

/-- The body of the present house entry at an index. -/
def Tables.bodyAt (t : Tables) (i : Nat) : Option Body := (t.house? i).bind Entry.body

/-- The least house index whose present entry's body is one that `f` takes. -/
def Tables.firstBody {α : Type} (t : Tables) (f : Body → Option α) : Option (Nat × α) :=
  (List.range 128).findSome? fun i => ((t.bodyAt i).bind f).map (i, ·)

/-- R89: the governing LINE entry of a line number: the present one with the lowest index. -/
def Tables.lineEntry (t : Tables) (n : Nat) : Option (Nat × LineBody) :=
  t.firstBody fun b => match b with
    | .line l => if l.line = n then some l else none
    | _ => none

/-- R124: the governing CHANNEL entry of a channel output. -/
def Tables.channelEntry (t : Tables) (n : Nat) : Option (Nat × ChannelBody) :=
  t.firstBody fun b => match b with
    | .channel c => if c.output = n then some c else none
    | _ => none

/-- R157: the governing CIRCUIT entry of a circuit output. -/
def Tables.circuitEntry (t : Tables) (n : Nat) : Option (Nat × CircuitBody) :=
  t.firstBody fun b => match b with
    | .circuit c => if c.output = n then some c else none
    | _ => none

/-- R10: the house's CURTAIN entry: the present one with the lowest index. -/
def Tables.curtainEntry (t : Tables) : Option (Nat × CurtainParams) :=
  t.firstBody fun b => match b with
    | .curtain p => some p
    | _ => none

/-- R45: the parameter copy a record takes: the CURTAIN entry's body, or the safe default values. -/
def Tables.curtainCopy (t : Tables) : CurtainParams := (t.curtainEntry.map Prod.snd).getD defaultCurtain

/-- R6: the zone that a reference names; none when it names no present ZONE entry. -/
def Tables.zone? (t : Tables) (i : Nat) : Option ZoneBody :=
  match t.bodyAt i with
  | some (.zone z) => some z
  | _ => none

/-- R5 and R6: the curtain trigger of a zone; a missing zone has none. -/
def Tables.zoneTrigger (t : Tables) (i : Nat) : Bool := ((t.zone? i).map ZoneBody.curtainTrigger).getD false

/-- R5 and R6: the staged field of a zone as it is read. -/
def Tables.zoneStaged (t : Tables) (i : Nat) : Bool := ((t.zone? i).map ZoneBody.reads).getD false

/-- The set that holds one circuit output. -/
def circuitBit (n : Nat) : CircuitSet := 1#16 <<< n

/-- The set that holds one channel output. -/
def channelBit (n : Nat) : ChannelSet := 1#48 <<< n

/-- R4, R5, R6 and R166: the circuit outputs of a zone: those whose governing CIRCUIT entry its list names, or every
governed one for a whole-house zone. A listed entry that does not govern its output brings nothing. -/
def Tables.zoneCircuits (t : Tables) (i : Nat) : CircuitSet :=
  match t.zone? i with
  | none => 0
  | some z =>
    (List.range 16).foldl (fun m n => match t.circuitEntry n with
      | some (j, _) => if z.wholeHouse || z.circuits.contains j then m ||| circuitBit n else m
      | none => m) 0

/-- R4, R5, R6 and R170: the channel outputs of a zone: those whose governing CHANNEL entry its list names, or every
governed one for a whole-house zone. A listed entry that does not govern its output brings nothing. -/
def Tables.zoneChannels (t : Tables) (i : Nat) : ChannelSet :=
  match t.zone? i with
  | none => 0
  | some z =>
    (List.range 48).foldl (fun m n => match t.channelEntry n with
      | some (j, _) => if z.wholeHouse || z.channels.contains j then m ||| channelBit n else m
      | none => m) 0

/-- R166: the union of the circuits of several zones. -/
def Tables.resolveCircuits (t : Tables) (zones : List Nat) : CircuitSet :=
  zones.foldl (fun m z => m ||| t.zoneCircuits z) 0

/-- R170: the union of the channels of several zones. -/
def Tables.resolveChannels (t : Tables) (zones : List Nat) : ChannelSet :=
  zones.foldl (fun m z => m ||| t.zoneChannels z) 0

/-! ## Used flags -/

/-- An entry with its used flag set (R18). -/
def Entry.markUsed (e : Entry) : Entry := { e with used := true }

/-- An entry with its used flag clear (R18). -/
def Entry.clearUsed (e : Entry) : Entry := { e with used := false }

/-- R18: the used flag of the house entry at an index is set. -/
def State.markHouse (i : Nat) (s : State) : State :=
  if h : i < 128 then { s with tab := { s.tab with house := s.tab.house.set i s.tab.house[i].markUsed } } else s

/-- R18: the used flag of a local entry is set. -/
def State.markLocal (st : Station) (i : Nat) (s : State) : State :=
  if h : i < 16 then
    { s with tab := { s.tab with locals := s.tab.locals.set st (s.tab.locals[st].set i s.tab.locals[st][i].markUsed) } }
  else s

/-- R18: the used flag of the entry that a selector names is set. -/
def State.markUsed (st : Station) (x : Selector) (s : State) : State :=
  if x.isLocal then s.markLocal st x.index.val else s.markHouse x.index.val

/-- R18: the used flags of several entries are set. -/
def State.markAll (st : Station) (xs : List Selector) (s : State) : State :=
  xs.foldl (fun s x => s.markUsed st x) s

/-- R30: every used flag of the house table and of every local table is cleared. -/
def Tables.clearUsed (t : Tables) : Tables :=
  { t with
    house := Vector.ofFn fun i => t.house[i].clearUsed
    locals := Vector.ofFn fun i => Vector.ofFn fun j => t.locals[i][j].clearUsed }

/-! ## The access check -/

/-- R1 and R14: a station is present; station 0 never is. -/
def State.stationPresent (s : State) (st : Station) : Bool := decide (st ≠ 0) && s.tab.stations[st].present

/-- The level of a station (R1). -/
def State.cpl (s : State) (st : Station) : Level := s.tab.stations[st].cpl

/-- R15: the type and the table that a selector field requires; none where any will do. -/
structure Want where
  type : Option EntryType
  isLocal : Option Bool
  deriving DecidableEq, Repr

/-- R15: an entry of one type in the house table. -/
def Want.house (t : EntryType) : Want := { type := some t, isLocal := some false }

/-- R15: an entry of one type in the station's local table. -/
def Want.inLocal (t : EntryType) : Want := { type := some t, isLocal := some true }

/-- R15: any type in either table. -/
def Want.any : Want := { type := none, isLocal := none }

/-- R15: the TYPE check. -/
def Want.admits (w : Want) (x : Selector) (e : Entry) : Bool :=
  (match w.type with | some t => decide (e.type = t) | none => true) &&
  (match w.isLocal with | some b => x.isLocal == b | none => true)

/-- The present entry that a selector names (R12), in the local table of station `st`. -/
def Tables.entry? (t : Tables) (st : Station) (x : Selector) : Option Entry :=
  if x.isLocal then t.local? st x.index.val else t.house? x.index.val

/-- R14: the index is not below the table's limit. -/
def Tables.beyond (t : Tables) (x : Selector) : Bool :=
  if x.isLocal then decide (16 ≤ x.index.val) else decide (t.limit ≤ x.index.val)

/-- R14: checks 2 to 6 of one selector, in order; none when every one passes. -/
def Tables.checkSelector (t : Tables) (st : Station) (el : Nat) (w : Want) (x : Selector) : Option CheckKind :=
  if x.isNull then some .null
  else if t.beyond x then some .limit
  else match t.entry? st x with
    | none => some .empty
    | some e =>
      if !w.admits x e then some .type
      else if e.dpl.val < el then some .level
      else none

/-- R16: the fault record of a selector that stood in the request frame. -/
def AccessFault.request (k : CheckKind) (x : Selector) : AccessFault :=
  { kind := k, isLocal := x.isLocal, index := x.index.val, fromRecord := false, item := 0, sub := 0 }

/-- R16: the fault record of a failed station check or fixed level. -/
def AccessFault.fixed (k : CheckKind) : AccessFault :=
  { kind := k, isLocal := false, index := 0, fromRecord := false, item := 0, sub := 0 }

/-- R14: the first selector of a list that fails, with its check. -/
def Tables.firstFault (t : Tables) (st : Station) (cpl : Level) (w : Want) : List Selector → Option AccessFault
  | [] => none
  | x :: xs =>
    match t.checkSelector st (effective cpl x.rpl) w x with
    | some k => some (.request k x)
    | none => t.firstFault st cpl w xs

/-- R17: the first inner selector that fails, each with its item and sub-item. -/
def Tables.innerFault (t : Tables) (st : Station) (cpl : Level) (w : Want) :
    List (Selector × Nat × Nat) → Option AccessFault
  | [] => none
  | (x, item, sub) :: xs =>
    match t.checkSelector st (effective cpl x.rpl) w x with
    | some k =>
      some { kind := k, isLocal := x.isLocal, index := x.index.val, fromRecord := true, item, sub }
    | none => t.innerFault st cpl w xs

/-- R14: the STATION check. -/
def withStation (st : Station) (k : Handler) : Handler := fun s =>
  if s.stationPresent st then k s else (s, .deny (.fixed .station))

/-- R13: the station check and a fixed level. -/
def withLevel (st : Station) (most : Nat) (k : Handler) : Handler :=
  withStation st fun s => if (s.cpl st).val ≤ most then k s else (s, .deny (.fixed .level))

/-- R13 to R15 and R18: a request of one selector; its entry is marked used when the check passes. -/
def withObject (st : Station) (raw : Half) (w : Want) (k : Selector → Handler) : Handler :=
  match decodeSelector raw with
  | none => refused .eParam
  | some x => withStation st fun s =>
    match s.tab.firstFault st (s.cpl st) w [x] with
    | some f => (s, .deny f)
    | none => k x (s.markUsed st x)

/-- R13 to R15 and R18: a request of a list of selectors. -/
def withObjects (st : Station) (raws : List Half) (w : Want) (k : List Selector → Handler) : Handler :=
  match decodeSelectors raws with
  | none => refused .eParam
  | some xs => withStation st fun s =>
    match s.tab.firstFault st (s.cpl st) w xs with
    | some f => (s, .deny f)
    | none => k xs (s.markAll st xs)

/-! ## Taking a request -/

/-- STATUS and DESCRIBE are handled while the image is being loaded (R185, R194). -/
def early (code : Byte) : Bool := code == 0x01 || code == 0x02

/-- R22 and R185: a request is handled whole: its station's paired record is removed, whatever the outcome;
while the image is loaded every code but STATUS and DESCRIBE is refused; the reply goes into the slot. -/
def serve (h : Hdr) (code : Byte) (body : Option Paired → Handler) (s : State) : State :=
  let s1 := { s with paired := s.paired.set h.station none }
  let out := if s.im.starting && !early code then (s1, Answer.refuse .eStarting) else body s.paired[h.station] s1
  out.1.putReply h code out.2

/-- R184: nothing waits before the next request: the slot and the buffer are empty, and no RESTART was taken. -/
def State.linkFree (s : State) : Bool := s.dl.slot.isNone && s.dl.buffer.isEmpty && !s.dl.restarting

/-- A request command: in reset it is lost (R180); when nothing waits before it, it is handled at once; else it
joins the receive buffer as its frame would (R184). DESIGN CHOICE, unsafe: notes/assumptions/2.md. -/
def arrive (i : Instr) (h : Hdr) (body : Option Paired → Handler) (s : State) : Out :=
  .next (if s.inReset then s
    else if s.linkFree then serve h (codeOf i) body s
    else { s with dl := s.dl.addItem (.request h (codeOf i) (encodeParams i)) })

/-- An event: nothing is taken while reset lasts (R180, R206). DESIGN CHOICE, unsafe: notes/assumptions/4.md. -/
def event (f : State → State) (s : State) : Out := .next (if s.inReset then s else f s)

/-- A notice taken as an event of its own (R106). DESIGN CHOICE, unsafe: notes/assumptions/7.md. -/
def noticed (i : Instr) (f : State → State) (s : State) : Out := event (fun s => f (s.takeNotice i)) s

end Sys2Proof.Machine
end

