-- ==== Sys2Proof/Machine/Flags.lean ====
section
/-! DEFINITION. The fault and warn flags of a movement: the arithmetic of one grid sample (R72 to R84), on the
movement alone. -/

namespace Sys2Proof.Machine

/-- R48: a record as it is opened. -/
def MoveRec.opened (k : MoveKind) (now : Clock) (position : Nat) : MoveRec :=
  { kind := k, start := now, stop := none, duration := 0, outcome := none, faults := [], warns := [],
    held := false, slowEntry := none, fastMax := 0, slowMax := 0, startPosition := position }

/-- R70 and R72: a record opened with a new grid, which starts at sample 0; the position of sample 0 is the previous
position. -/
def Movement.fresh (k : MoveKind) (p : CurtainParams) (now : Clock) (position : Nat) : Movement :=
  { record := .opened k now position, params := p, nextSample := now + Config.sampleTicks,
    previous := some position, window := [], allowance := 0, elapsed := 0, slowCount := none, underCount := 0,
    overCount := 0, dashpotCount := 0, stallCount := 0, lateCount := 0, raiseStallCount := 0 }

/-- R70 and R72: a fire-class record opened in place of a test lowering, the window and the grid kept. -/
def Movement.replacing (m : Movement) (k : MoveKind) (p : CurtainParams) (now : Clock) (position : Nat) : Movement :=
  { m with record := .opened k now position, params := p, elapsed := 0, slowCount := none,
           dashpotCount := 0, lateCount := 0 }

/-- R72: a window reset. -/
def Movement.resetWindow (m : Movement) : Movement :=
  { m with window := [], allowance := 0, underCount := 0, overCount := 0, stallCount := 0, dashpotCount := 0,
           lateCount := 0, raiseStallCount := 0 }

/-- R70 and R72: a held movement goes on: the window reset, and a new grid whose first sample is 100 ms ahead. -/
def Movement.resumed (m : Movement) (now : Clock) : Movement :=
  { m.resetWindow with nextSample := now + Config.sampleTicks }

/-- R70: the grid sample of a movement is taken, and the next one stands 100 ms after it. -/
def Movement.nextGrid (m : Movement) : Movement := { m with nextSample := m.nextSample + Config.sampleTicks }

/-- The movement is a raise (R73). -/
def Movement.raising (m : Movement) : Bool := decide (m.record.kind = .raise)

/-- R73: the raw speed, positive in the direction of the record. -/
def Movement.rawSpeed (m : Movement) (position : Nat) : Int :=
  let previous : Nat := m.previous.getD position
  if m.raising then Int.ofNat previous - Int.ofNat position else Int.ofNat position - Int.ofNat previous

/-- R74: a raw speed enters the window, which holds at most four. -/
def pushSpeed (w : List Int) (v : Int) : List Int := (if 4 ≤ w.length then w.drop 1 else w) ++ [v]

/-- R74: the filtered speed, the mean of the window truncated toward zero. -/
def filtered (w : List Int) : Int := Int.tdiv w.sum (Int.ofNat w.length)

/-- The filtered speed of the movement's window as it stands. -/
def Movement.speed (m : Movement) : Int := filtered m.window

/-- R73 and R74: step 2 of a sample. -/
def Movement.takeSpeed (m : Movement) (position : Nat) : Movement :=
  { m with
    previous := some position
    window := pushSpeed m.window (m.rawSpeed position)
    allowance := countUp 65535 m.allowance
    elapsed := countUp 65535 m.elapsed
    record := { m.record with duration := min 1200 (countUp 65535 m.elapsed) } }

/-- R75: a sample of a lowering lies in the slow zone. -/
def Movement.inSlowZone (m : Movement) (position : Nat) : Bool :=
  !m.raising && decide (m.params.slowStart ≤ position)

/-- R75: a recorded maximum after a sample. -/
def raiseMax (old : Nat) (v : Int) : Nat := if Int.ofNat old < v then v.toNat else old

/-- R75: step 3 of a sample: the zone, the slow-zone entry and count, and the maxima. -/
def Movement.takeZone (m : Movement) (position : Nat) : Movement :=
  if m.inSlowZone position then
    { m with
      slowCount := some (match m.slowCount with | none => 0 | some n => countUp 65535 n)
      record := { m.record with
        slowEntry := (match m.slowCount with | none => some m.elapsed | some _ => m.record.slowEntry)
        slowMax := raiseMax m.record.slowMax m.speed } }
  else
    { m with record := { m.record with fastMax := raiseMax m.record.fastMax m.speed } }

/-- R76: the allowance is over. -/
def Movement.allowanceOver (m : Movement) : Bool := decide (10 ≤ m.allowance)

/-- R76: a counter after a sample: up while its check applies and its condition holds, else 0. -/
def counter (top old : Nat) (applies condition : Bool) : Nat := if applies && condition then countUp top old else 0

/-- R78: the DASHPOT check applies: a slow-zone sample whose slow count is 5 or more. -/
def Movement.dashpotApplies (m : Movement) (position : Nat) : Bool :=
  m.inSlowZone position && decide (5 ≤ m.slowCount.getD 0)

/-- R77 to R79 and R83: the counters after a sample's checks. -/
def Movement.takeCounters (m : Movement) (position : Nat) : Movement :=
  let v := m.speed
  if m.raising then
    { m with raiseStallCount := counter 3 m.raiseStallCount m.allowanceOver (decide (v < m.params.vMinRaise)) }
  else
    { m with
      underCount := counter 20 m.underCount (!m.inSlowZone position && m.allowanceOver) (decide (v < m.params.vMinFast))
      overCount := counter 20 m.overCount (!m.inSlowZone position && m.allowanceOver) (decide (m.params.vMaxFast < v))
      dashpotCount := counter 3 m.dashpotCount (m.dashpotApplies position) (decide (m.params.vMaxSlow < v))
      stallCount := counter 20 m.stallCount m.allowanceOver (decide (v ≤ 0)) }

/-- R76 to R79 and R83: what each flag's check has reached, before a flag already set is left out. -/
def Movement.reachedFlags (m : Movement) : List FaultFlag :=
  if m.raising then
    (if 3 ≤ m.raiseStallCount then [FaultFlag.raiseStall] else []) ++
      (if m.params.tRaiseLimit < m.elapsed then [FaultFlag.raiseOvertime] else [])
  else
    (if 3 ≤ m.underCount then [FaultFlag.underspeed] else []) ++
      (if 3 ≤ m.overCount then [FaultFlag.overspeed] else []) ++
      (if 3 ≤ m.dashpotCount then [FaultFlag.dashpot] else []) ++
      (if 20 ≤ m.stallCount then [FaultFlag.stall] else []) ++
      (if m.params.tLimit < m.elapsed then [FaultFlag.overtime] else [])

/-- R76: the flags newly set by a sample, in the order of R46. -/
def Movement.newFlags (m : Movement) : List FaultFlag :=
  m.reachedFlags.filter fun f => !m.record.faults.contains f

/-- R81: the flags that end a test lowering. -/
def FaultFlag.endsTest : FaultFlag → Bool
  | .overtime => false
  | _ => true

/-- R81: the flags newly set end the movement: any in a raise, any but OVERTIME in a test lowering. -/
def Movement.endedBy (m : Movement) (new : List FaultFlag) : Bool :=
  match m.record.kind with
  | .testLower => new.any FaultFlag.endsTest
  | .raise => !new.isEmpty
  | .fire => false
  | .manual => false

/-- The integer ceiling of a quotient (R80). -/
def ceilDiv (a b : Nat) : Nat := (a + (b - 1)) / b

/-- R80: the divisor of the projection, the larger of the filtered speed and 1. -/
def Movement.projectionSpeed (m : Movement) : Nat := (max m.speed 1).toNat

/-- R80 and R84: the projected completion time in tenths. -/
def Movement.projected (m : Movement) (position : Nat) : Nat :=
  if m.inSlowZone position then
    m.elapsed + ceilDiv (m.params.travel - position) m.projectionSpeed
  else
    m.elapsed + ceilDiv (m.params.slowStart - position) m.projectionSpeed +
      ceilDiv (m.params.travel - m.params.slowStart) m.params.vSlowNom

/-- R80: the late counter after a sample. -/
def Movement.takeLate (m : Movement) (position : Nat) : Movement :=
  { m with lateCount := counter 3 m.lateCount m.allowanceOver (decide (m.params.tLimit < m.projected position)) }

/-- R82 and R83: the movement completes at a sample that reads its limit made. -/
def Movement.completes (m : Movement) (top bottom : Bool) : Bool := if m.raising then top else bottom

/-- R82 and R83: the encoder does not agree with the travel at completion. -/
def Movement.mismatch (m : Movement) (position : Nat) : Bool :=
  if m.raising then decide (m.params.travel / 50 < position)
  else decide (m.params.travel / 50 < (position - m.params.travel) + (m.params.travel - position))

/-- R82 and R83: the outcome of a completion. -/
def Movement.completion (m : Movement) : MoveOutcome :=
  if m.record.kind.fireClass && !m.record.faults.isEmpty then .fault else .complete

/-- A warn flag set in a record (R48). -/
def MoveRec.warn (r : MoveRec) (f : WarnFlag) : MoveRec :=
  if r.warns.contains f then r else { r with warns := r.warns ++ [f] }

end Sys2Proof.Machine
end

