-- ==== Sys2Proof/Machine/Curtain.lean ====
section
/-! DEFINITION. The Curtain Controller: curtain states, requests, fire lock, raise permit, fire-class triggers,
movement records and their supervision (R43 to R85). -/

namespace Sys2Proof.Machine

/-! ## Shared operations -/

/-- R44: the RELEASE output. DEDUCED, safe: notes/assumptions/29.md. -/
def State.releaseOn (s : State) : Bool := !s.inReset && decide (s.cc.state = .lowering)

/-- R44: the RAISE output. -/
def State.raiseOn (s : State) : Bool := !s.inReset && decide (s.cc.state = .raising)

/-- R46: the state taken from the limits, and the fault reason that goes with it. -/
def limitState (top bottom : Bool) : CurtainState × Option FaultReason :=
  match top, bottom with
  | true, true => (.fault, some .limitsBoth)
  | true, false => (.out, none)
  | false, true => (.inn, none)
  | false, false => (.parked, none)

/-- R68: a CURTAIN report of the state as it stands. -/
def State.curtainReport (previous : CurtainState) (cause : CurtainCause) (s : State) : State :=
  s.addReport (.curtain
    { previous, state := s.cc.state, cause, record := s.cc.move.map fun m => m.record.kind,
      position := s.cc.position, lock := s.cc.lock, permit := s.cc.permit,
      reason := if s.cc.state = .fault then s.cc.reason else none })

/-- The curtain state and the fault reason that goes with it. -/
def State.setCurtain (new : CurtainState) (reason : Option FaultReason) (s : State) : State :=
  { s with cc := { s.cc with state := new, reason := reason } }

/-- A change of the curtain state with its CURTAIN report (R68). -/
def State.enterCurtain (new : CurtainState) (reason : Option FaultReason) (cause : CurtainCause) (s : State) : State :=
  (s.setCurtain new reason).curtainReport s.cc.state cause

/-- The open movement is replaced. -/
def State.setMove (m : Option Movement) (s : State) : State := { s with cc := { s.cc with move := m } }

/-- R50: a closed record is appended; a full log loses its oldest. -/
def appendLog (log : List MoveRec) (r : MoveRec) : List MoveRec :=
  (if Config.logRecords ≤ log.length then log.drop 1 else log) ++ [r]

/-- R40: the notice that the sequencer is given when a record closes. -/
def closeNotice (r : MoveRec) (o : MoveOutcome) (tLimit : Nat) : Instr :=
  .movementNotice r.kind o r.held r.duration tLimit

/-- R49: a record is closed, logged, reported, and the sequencer told. The output follows the state. -/
def State.closeRecord (r : MoveRec) (o : MoveOutcome) (tLimit : Nat) (s : State) : State :=
  let done := { r with stop := some s.clock, outcome := some o }
  (({ s with cc := { s.cc with move := none, heldExpiry := none, log := appendLog s.cc.log done } }).addReport
    (.movement done)).notify (closeNotice done o tLimit)

/-- R49: the open record is closed. -/
def State.closeMove (o : MoveOutcome) (s : State) : State :=
  match s.cc.move with
  | none => s
  | some m => s.closeRecord m.record o m.params.tLimit

/-- R63: a record opened and closed at once with outcome BLOCKED. -/
def State.blockMove (k : MoveKind) (s : State) : State :=
  s.closeRecord (.opened k s.clock s.cc.position) .blocked s.tab.curtainCopy.tLimit

/-- R45 and R48: a record is opened with a new grid. -/
def State.openMove (k : MoveKind) (s : State) : State :=
  s.setMove (some (.fresh k s.tab.curtainCopy s.clock s.cc.position))

/-- R69: a CURTAIN_WARN report for the open movement. -/
def State.warnReport (f : WarnReport) (s : State) : State :=
  match s.cc.move with
  | none => s
  | some m => s.addReport (.curtainWarn f m.record.kind m.record.start s.cc.position m.elapsed)

/-- R69: a warn flag is set in the open record, with its report the first time. -/
def State.warn (f : WarnFlag) (s : State) : State :=
  match s.cc.move with
  | none => s
  | some m =>
    if m.record.warns.contains f then s
    else (s.setMove (some { m with record := m.record.warn f })).warnReport (.warn f)

/-- R64: step 4 of a sample: a fire-class lowering with the setting line not clear. -/
def State.obstruct (s : State) : State :=
  match s.cc.move with
  | none => s
  | some m => if m.record.kind.fireClass && !s.cc.settingClear then s.warn .obstructed else s

/-- R82 and R83: the open movement completes. -/
def State.completeMove (m : Movement) (s : State) : State :=
  let r := if m.mismatch s.cc.position then m.record.warn .encoderMismatch else m.record
  (s.closeRecord r m.completion m.params.tLimit).enterCurtain (if m.raising then .out else .inn) none .complete

/-- R82 and R83: step 5 of a sample; true when it closed the record. -/
def State.tryComplete (s : State) : State × Bool :=
  match s.cc.move with
  | none => (s, false)
  | some m => if m.completes s.cc.top s.cc.bottom then (s.completeMove m, true) else (s, false)

/-- R85: sample 0 of a record opened with a new grid runs steps 1, 4 and 5. -/
def State.sampleZero (s : State) : State := s.obstruct.tryComplete.1

/-- R85: the sample 0 reading of a record opened in place of a test lowering runs steps 1 and 5. -/
def State.readingZero (s : State) : State := s.tryComplete.1

/-- R81: the flags newly set are written into the record and acted on; true when the movement ended. -/
def State.actOnFlags (m : Movement) (new : List FaultFlag) (s : State) : State × Bool :=
  let m1 := { m with record := { m.record with faults := m.record.faults ++ new } }
  let s1 := s.setMove (some m1)
  if m.endedBy new then
    ((s1.closeMove .fault).enterCurtain .fault (new.head?.map FaultReason.flag) .fault, true)
  else (new.foldl (fun s f => s.warnReport (.fault f)) s1, false)

/-- R80: step 8 of a sample: the projection of a lowering and the LATE warning. -/
def State.project (s : State) : State :=
  match s.cc.move with
  | none => s
  | some m =>
    if m.raising then s
    else
      let m1 := m.takeLate s.cc.position
      let s1 := s.setMove (some m1)
      if 3 ≤ m1.lateCount then s1.warn .late else s1

/-- R85: steps 6 to 8 of a sample that has not completed. -/
def State.checkMove (s : State) : State :=
  match s.cc.move with
  | none => s
  | some m =>
    let m1 := m.takeCounters s.cc.position
    let acted := (s.setMove (some m1)).actOnFlags m1 m1.newFlags
    if acted.2 then acted.1 else acted.1.project

/-- R85: a grid sample after sample 0, worked whole. -/
def State.gridSample (m : Movement) (s : State) : State :=
  let s1 := (s.setMove (some ((m.takeSpeed s.cc.position).takeZone s.cc.position))).obstruct
  let done := s1.tryComplete
  if done.2 then done.1 else done.1.checkMove

/-- R60: the fire lock is set; its cause is kept when it was set already. Setting it clears the permit. -/
def State.setLock (c : LockCause) (s : State) : State :=
  match s.cc.lock with
  | some _ => { s with cc := { s.cc with permit := none } }
  | none => ({ s with cc := { s.cc with permit := none, lock := some c } }).notify (.fireLockNotice true)

/-- R62: the record kind and the lock cause of a trigger, and the cause of its CURTAIN report. -/
def LockCause.kind : LockCause → MoveKind
  | .fire => .fire
  | .manual => .manual

/-- R62: the cause of the CURTAIN report of a trigger. -/
def LockCause.report : LockCause → CurtainCause
  | .fire => .fireTrigger
  | .manual => .manualTrigger

/-- R62: the open movement is a fire-class one. -/
def State.fireMove (s : State) : Bool :=
  match s.cc.move with
  | some m => m.record.kind.fireClass
  | none => false

/-- R62: an open test lowering is replaced by a fire-class record, RELEASE left on and the window kept. -/
def State.replaceMove (k : MoveKind) (s : State) : State :=
  match s.cc.move with
  | none => s.openMove k
  | some m =>
    (s.closeMove .aborted).setMove (some (m.replacing k s.tab.curtainCopy s.clock s.cc.position))

/-- R63: what a trigger does to the curtain while the drive group is inhibited. -/
def State.blockedTrigger (k : MoveKind) (s : State) : State :=
  match s.cc.state with
  | .inn => s
  | .lowering => s
  | .out => s.blockMove k
  | .parked => s.blockMove k
  | .fault => s.blockMove k
  | .held => ((s.closeMove .aborted).blockMove k).setCurtain .parked none
  | .raising => ((s.closeMove .aborted).blockMove k).setCurtain .parked none

/-- R62: what a trigger does to the curtain while the drive group is not inhibited. -/
def State.freeTrigger (k : MoveKind) (s : State) : State :=
  match s.cc.state with
  | .inn => s
  | .out => (s.openMove k).setCurtain .lowering none
  | .parked => (s.openMove k).setCurtain .lowering none
  | .fault => (s.openMove k).setCurtain .lowering none
  | .held => ((s.closeMove .aborted).openMove k).setCurtain .lowering none
  | .raising => ((s.closeMove .aborted).openMove k).setCurtain .lowering none
  | .lowering => if s.fireMove then s else s.replaceMove k

/-- R62 and R70: sample 0 of the record a trigger opened, by the state it found. -/
def State.triggerSample (found : CurtainState) (wasFire : Bool) (s : State) : State :=
  match found with
  | .inn => s
  | .lowering => if wasFire then s else s.readingZero
  | _ => s.sampleZero

/-- R62, R63: a fire-class trigger of either kind, in every curtain state.
DESIGN CHOICE, unsafe: notes/assumptions/22.md. -/
def State.fireClass (c : LockCause) (s : State) : State :=
  let s1 := s.setLock c
  let s2 := if s.im.inhibit.drive then s1.blockedTrigger c.kind else s1.freeTrigger c.kind
  let s3 := if s.cc.state ≠ s2.cc.state ∨ s.cc.lock ≠ s2.cc.lock then s2.curtainReport s.cc.state c.report else s2
  if s.im.inhibit.drive then s3 else s3.triggerSample s.cc.state s.fireMove

/-- R62: CC's answer to a MANUAL_DROP. -/
def State.dropResult (s : State) : DropResult :=
  if s.cc.state = .inn then .alreadyIn
  else if s.im.inhibit.drive then .blocked
  else if s.cc.state = .lowering && s.fireMove then .alreadyDropping
  else .dropping

/-- R62: a MANUAL_DROP and the data of its answer. -/
def State.manualDrop : Handler := fun s =>
  (s.fireClass .manual,
    match s.dropResult with
    | .blocked => .part (be1 DropResult.blocked.ctorIdx)
    | r => .ok (be1 r.ctorIdx))

/-- R65: the alarm stage has left QUIET. -/
def State.stageLeftQuiet (s : State) : State :=
  let s1 := { s with cc := { s.cc with permit := none } }
  if s.cc.state = .raising then (s1.closeMove .aborted).enterCurtain .parked none .stage else s1

/-- R66, R67: the outcome of a fire-class record that ends short of the bottom. -/
def State.shortOutcome (s : State) : MoveOutcome :=
  match s.cc.move with
  | some m => if m.record.kind.fireClass && !m.record.faults.isEmpty then .fault else .aborted
  | none => .aborted

/-- R67: the drive group is inhibited. -/
def State.inhibitDrive (s : State) : State :=
  match s.cc.state with
  | .lowering => (s.closeMove s.shortOutcome).enterCurtain .parked none .inhibit
  | .raising => (s.closeMove .aborted).enterCurtain .parked none .inhibit
  | .held => (s.closeMove .aborted).enterCurtain .parked none .inhibit
  | .out => s
  | .inn => s
  | .parked => s
  | .fault => s

/-- R54 and R55: the movement is held: the record's held flag, the held expiry, the state. -/
def State.holdMove (cause : CurtainCause) (s : State) : State :=
  let s1 := match s.cc.move with
    | none => s
    | some m => s.setMove (some { m with record := { m.record with held := true } })
  ({ s1 with cc := { s1.cc with heldExpiry := some (s.clock + Config.heldTicks) } }).enterCurtain .held none cause

/-! ## Requests -/

/-- R51: LOWER after the access check. -/
def askLower (h : Hdr) (curtain : Half) : Handler :=
  withObject h.station curtain (.house .curtain) fun _ =>
    need (fun s => s.cc.state = .out || s.cc.state = .parked) .eMotion <|
    need (fun s => s.cc.driveReady) .eMotion <|
    need (fun s => s.cc.settingClear) .eMotion <|
    need (fun s => !s.im.inhibit.drive) .eInhibit fun s =>
      (((s.openMove .testLower).enterCurtain .lowering none .lower).sampleZero,
        .ok (clockBytes s.clock ++ be2 s.cc.position))

/-- LOWER (R51). -/
def execLower (h : Hdr) (curtain : Half) (s : State) : Out :=
  arrive (.lower h curtain) h (fun _ => askLower h curtain) s

/-- R52: PERMIT_RAISE. -/
def askPermitRaise (h : Hdr) : Handler :=
  withLevel h.station 1 <|
    need (fun s => s.al.stage = .quiet) .eStage <|
    need (fun s => s.cc.lock.isNone) .eLocked fun s =>
      ({ s with cc := { s.cc with permit := some (s.clock + Config.permitTicks) } },
        .ok (clockBytes (s.clock + Config.permitTicks)))

/-- PERMIT_RAISE (R52). -/
def execPermitRaise (h : Hdr) (s : State) : Out := arrive (.permitRaise h) h (fun _ => askPermitRaise h) s

/-- R53: what a RAISE that is taken does. -/
def State.startRaise (s : State) : State :=
  let s1 := if s.cc.state = .held then s.closeMove .aborted else s
  let s2 := { s1 with cc := { s1.cc with permit := none } }
  ((s2.openMove .raise).enterCurtain .raising none .raise).sampleZero

/-- R53: RAISE after the access check. -/
def askRaise (h : Hdr) (curtain : Half) : Handler :=
  withObject h.station curtain (.house .curtain) fun _ =>
    need (fun s => s.cc.state = .inn || s.cc.state = .parked || s.cc.state = .held) .eMotion <|
    need (fun s => s.al.stage = .quiet) .eStage <|
    need (fun s => s.cc.lock.isNone) .eLocked <|
    need (fun s => s.cc.permit.isSome) .ePermit <|
    need (fun s => s.cc.driveReady) .eMotion <|
    need (fun s => !s.im.inhibit.drive) .eInhibit fun s =>
      (s.startRaise, .ok (clockBytes s.clock ++ be2 s.cc.position))

/-- RAISE (R53). -/
def execRaise (h : Hdr) (curtain : Half) (s : State) : Out :=
  arrive (.raise h curtain) h (fun _ => askRaise h curtain) s

/-- R54: HOLD after the access check. -/
def askHold (h : Hdr) (curtain : Half) : Handler :=
  withObject h.station curtain (.house .curtain) fun _ =>
    need (fun s => s.cc.state.moving) .eNothing <|
    need (fun s => !(s.cc.state = .lowering && s.fireMove)) .eLocked fun s =>
      (s.holdMove .hold, .ok (be2 s.cc.position ++ clockBytes (s.clock + Config.heldTicks)))

/-- HOLD (R54). -/
def execHold (h : Hdr) (curtain : Half) (s : State) : Out :=
  arrive (.hold h curtain) h (fun _ => askHold h curtain) s

/-- R56: the held movement is a raise. -/
def State.heldRaise (s : State) : Bool :=
  match s.cc.move with
  | some m => m.raising
  | none => false

/-- R56 and R72: a held movement goes on: the expiry removed, the window reset, a new grid begun. -/
def State.resumeMove (s : State) : State :=
  let s1 := { s with cc := { s.cc with
    heldExpiry := none, move := s.cc.move.map fun (m : Movement) => m.resumed s.clock } }
  s1.enterCurtain (if s.heldRaise then .raising else .lowering) none .resume

/-- R56: RESUME after the access check. -/
def askResume (h : Hdr) (curtain : Half) : Handler :=
  withObject h.station curtain (.house .curtain) fun _ =>
    need (fun s => s.cc.state = .held) .eNothing <|
    need (fun s => s.heldRaise || s.cc.settingClear) .eMotion <|
    need (fun s => !s.heldRaise || s.al.stage = .quiet) .eStage <|
    need (fun s => !s.heldRaise || s.cc.lock.isNone) .eLocked <|
    need (fun s => s.cc.driveReady) .eMotion <|
    need (fun s => !s.im.inhibit.drive) .eInhibit fun s => (s.resumeMove, .ok [])

/-- RESUME (R56). -/
def execResume (h : Hdr) (curtain : Half) (s : State) : Out :=
  arrive (.resume h curtain) h (fun _ => askResume h curtain) s

/-- R58: what CLEAR_FAULT does in FAULT: the state is taken from the limits as they stand. -/
def State.clearFault (s : State) : State :=
  let (new, reason) := limitState s.cc.top s.cc.bottom
  if new = .fault then s.setCurtain new reason else s.enterCurtain new reason .clearFault

/-- R58: CLEAR_FAULT. -/
def askClearFault (h : Hdr) : Handler :=
  withLevel h.station 1 <| need (fun s => s.cc.state = .fault) .eNothing fun s =>
    (s.clearFault, .ok (be1 s.clearFault.cc.state.ctorIdx))

/-- CLEAR_FAULT (R58). -/
def execClearFault (h : Hdr) (s : State) : Out := arrive (.clearFault h) h (fun _ => askClearFault h) s

/-- R60: the fire lock is cleared and its cause removed; OS is told. -/
def State.dropLock (s : State) : State :=
  if s.cc.lock.isSome then ({ s with cc := { s.cc with lock := none } }).notify (.fireLockNotice false) else s

/-- R61: RELEASE_LOCK. -/
def askReleaseLock (h : Hdr) : Handler :=
  withLevel h.station 1 <|
    need (fun s => s.cc.lock.isSome) .eNothing <|
    need (fun s => s.al.stage = .quiet) .eStage <|
    need (fun s => !(s.cc.state = .lowering && s.fireMove)) .eMotion fun s =>
      (s.dropLock.curtainReport s.cc.state .releaseLock, .ok [])

/-- RELEASE_LOCK (R61). -/
def execReleaseLock (h : Hdr) (s : State) : Out := arrive (.releaseLock h) h (fun _ => askReleaseLock h) s

/-- R50: the data of READ_MOVEMENTS: the open record, then the closed ones from newest to oldest. -/
def State.movementsBytes (s : State) : List Byte :=
  (match s.cc.move with
    | none => be1 0
    | some m => be1 1 ++ m.record.bytes m.elapsed) ++
  counted (fun r : MoveRec => r.bytes r.duration) s.cc.log.reverse

/-- R50: READ_MOVEMENTS. -/
def askReadMovements (h : Hdr) : Handler := withStation h.station fun s => (s, .ok s.movementsBytes)

/-- READ_MOVEMENTS (R50). -/
def execReadMovements (h : Hdr) (s : State) : Out := arrive (.readMovements h) h (fun _ => askReadMovements h) s

/-! ## Events -/

/-- PERMIT_EXPIRY (R52): the permit's expiry is reached, and the permit is cleared. -/
def execPermitExpiry (s : State) : Out :=
  event (fun s => if dueReached s.clock s.cc.permit then { s with cc := { s.cc with permit := none } } else s) s

/-- HELD_EXPIRY (R57). -/
def execHeldExpiry (s : State) : Out :=
  event (fun s =>
    if s.cc.state = .held && dueReached s.clock s.cc.heldExpiry then
      (s.closeMove .aborted).enterCurtain .parked none .heldExpiry
    else s) s

/-- R47: a state at rest that follows the limits. -/
def CurtainState.followsLimits : CurtainState → Bool
  | .out => true
  | .inn => true
  | .parked => true
  | _ => false

/-- LIMIT_CHANGE (R47): a limit has changed to the levels that the command brings, with the encoder's count. At rest
the state is taken from them, also when the pins show them already. DESIGN CHOICE, unsafe: notes/assumptions/9.md. -/
def execLimitChange (position : Half) (top bottom : Bool) (s : State) : Out :=
  event (fun s =>
    let s1 := { s with cc := { s.cc with position := position.toNat, top := top, bottom := bottom } }
    let (new, reason) := limitState top bottom
    if s.cc.state.followsLimits && new ≠ s.cc.state then s1.enterCurtain new reason .limit else s1) s

/-- SETTING_LINE_CHANGE (R55): the input has gone to the level that the command brings. Going false during a test
lowering holds it, also when a sample taken first has read it false already (R71). -/
def execSettingLineChange (settingClear : Bool) (s : State) : Out :=
  event (fun s =>
    let s1 := { s with cc := { s.cc with settingClear := settingClear } }
    if !settingClear && s.cc.state = .lowering && !s.fireMove then
      (s1.warn .obstructed).holdMove .settingLine
    else s1) s

/-- DRIVE_READY_CHANGE (R59): the input has gone to the level that the command brings. Going false during a test
lowering or a raise ends it. -/
def execDriveReadyChange (driveReady : Bool) (s : State) : Out :=
  event (fun s =>
    let s1 := { s with cc := { s.cc with driveReady := driveReady } }
    if !driveReady && s.cc.state.moving && !(s.cc.state = .lowering && s.fireMove) then
      (s1.closeMove .aborted).enterCurtain .parked none .driveLost
    else s1) s

/-- FIRE_TRIGGER (R62, R63): CC takes a FIRE trigger. -/
def execFireTrigger (s : State) : Out := noticed .fireTrigger (State.fireClass .fire) s

/-- R66: the alarm stage has returned to QUIET. -/
def State.alarmQuiet (s : State) : State :=
  let stops := s.cc.state = .lowering && s.fireMove
  let s1 := if stops then (s.closeMove s.shortOutcome).setCurtain .parked none else s
  if stops || s.cc.lock.isSome then s1.dropLock.curtainReport s.cc.state .alarmQuiet else s1

/-- ALARM_QUIET (R66). -/
def execAlarmQuiet (s : State) : Out := noticed .alarmQuiet State.alarmQuiet s

/-- R70: a grid sample of the open movement is due: the curtain moves, and the grid's next sample is reached. -/
def State.sampleDue (s : State) : Bool :=
  s.cc.state.moving && (s.cc.move.map fun m => reached s.clock m.nextSample).getD false

/-- R70 and R85: a grid sample of a movement is taken with what CC reads at it. -/
def State.takeSample (position : Half) (top bottom settingClear : Bool) (m : Movement) (s : State) : State :=
  State.gridSample m.nextGrid { s with
    cc := { s.cc with position := position.toNat, top := top, bottom := bottom, settingClear := settingClear } }

/-- CURTAIN_SAMPLE (R85): a grid sample of the movement, with what CC reads at it. No sample is taken while the
curtain is not moving, or between two samples of the grid (R70, R71). -/
def execCurtainSample (position : Half) (top bottom settingClear : Bool) (s : State) : Out :=
  event (fun s =>
    if s.sampleDue then
      match s.cc.move with
      | none => s
      | some m => s.takeSample position top bottom settingClear m
    else s) s

end Sys2Proof.Machine
end

