-- ==== Sys2Proof/Machine/Override.lean ====
section
/-! DEFINITION. The Override Selector: the override event set and the source of every channel (R142 to R149), and
desk supervision (R150 to R155). -/

namespace Sys2Proof.Machine

/-! ## Selection -/

/-- R124: the body of the governing CHANNEL entry of an output. -/
def Tables.governing (t : Tables) (n : Nat) : Option ChannelBody := (t.channelEntry n).map Prod.snd

/-- R144: EMERGENCY applies to a channel. -/
def Overrides.emergency (o : Overrides) (b : ChannelBody) : Bool :=
  (o.evac && b.mask.evac) || (o.fireLock && b.mask.fireLock)

/-- R144: the source of a channel output; an output with no governing entry has an empty mask. -/
def Overrides.sourceOf (o : Overrides) (n : Nat) : Option ChannelBody → Source
  | none => .primary
  | some b =>
    if o.emergency b then .emergency
    else if o.deskLoss && b.mask.deskLoss then .hold
    else if o.flick.getLsbD n && b.mask.flick then .flick
    else .primary

/-- R144: the value of a source. -/
def Source.value (x : Source) (b : Option ChannelBody) (primary : Nat) : Nat :=
  match x with
  | .primary => primary
  | .emergency => (b.map ChannelBody.emergency).getD primary
  | .hold => (b.map ChannelBody.hold).getD primary
  | .flick => (b.map ChannelBody.flick).getD primary

/-- R145: the fade ticks of a change of source; none for a snap. -/
def easeTicks : Source → Source → Option Nat
  | .primary, .hold => some 250
  | .emergency, .hold => some 250
  | .emergency, .primary => some 100
  | .hold, .primary => some 100
  | _, _ => none

/-- R136 and R142: a channel record takes a selected level; its reload value is computed when it changes. -/
def Channel.select (c : Channel) (cycle level : Nat) : Channel :=
  if level = c.selected then c else { c with selected := level, reload := reloadOf level cycle }

/-- R142: a selection record with the channel record whose selected level it gives. -/
structure Lamp where
  sel : Selection
  chan : Channel
  deriving DecidableEq, Repr

/-- R145: a change of source is started. -/
def Lamp.change (x : Lamp) (cycle : Nat) (src : Source) (b : Option ChannelBody) : Lamp :=
  match easeTicks x.sel.source src with
  | none =>
    { sel := { source := src, transition := none }, chan := x.chan.select cycle (src.value b x.chan.primary) }
  | some m => { x with sel := { source := src, transition := some { origin := x.chan.selected, j := 0, m } } }

/-- R143: the selection of one channel worked at a change of the event set. -/
def Lamp.work (x : Lamp) (cycle : Nat) (src : Source) (b : Option ChannelBody) : Lamp :=
  if src = x.sel.source then x else x.change cycle src b

/-- R142 and R148: the same at a table change or an image load, which may change the value of the source. -/
def Lamp.reread (x : Lamp) (cycle : Nat) (src : Source) (b : Option ChannelBody) : Lamp :=
  if src = x.sel.source then
    match x.sel.transition with
    | some _ => x
    | none => { x with chan := x.chan.select cycle (src.value b x.chan.primary) }
  else x.change cycle src b

/-- R146: the selected level of a transition after its next step. -/
def Transition.level (t : Transition) (v : Nat) : Nat := easeLevel t.origin v (t.j + 1) t.m

/-- R146: a transition after its next step. -/
def Transition.next (t : Transition) : Option Transition :=
  if t.m ≤ t.j + 1 then none else some { t with j := t.j + 1 }

/-- R144 and R146: step 2 of a fade tick for one channel. DEDUCED, unsafe: notes/assumptions/24.md. -/
def Lamp.tick (x : Lamp) (cycle : Nat) (src : Source) (b : Option ChannelBody) : Lamp :=
  if src = x.sel.source then
    match x.sel.transition with
    | some t =>
      { sel := { x.sel with transition := t.next },
        chan := x.chan.select cycle (t.level (src.value b x.chan.primary)) }
    | none => { x with chan := x.chan.select cycle (src.value b x.chan.primary) }
  else x.change cycle src b

/-- The selection record and the channel record of an output. -/
def State.lamp (s : State) (n : Fin 48) : Lamp := { sel := s.os.selections[n], chan := s.le.channels[n] }

/-- The selection and channel records of every output replaced. -/
def State.setLamps (v : Vector Lamp 48) (s : State) : State :=
  { s with
    os := { s.os with selections := Vector.ofFn fun n : Fin 48 => v[n].sel }
    le := { s.le with channels := Vector.ofFn fun n : Fin 48 => v[n].chan } }

/-- R143: the selection of every channel output worked at once. -/
def State.workSelection (s : State) : State :=
  s.setLamps <| Vector.ofFn fun n : Fin 48 =>
    (s.lamp n).work s.le.cycle (s.os.sourceOf n (s.tab.governing n)) (s.tab.governing n)

/-- R148: the selection of every channel output worked at a table change. -/
def State.rereadSelection (s : State) : State :=
  s.setLamps <| Vector.ofFn fun n : Fin 48 =>
    (s.lamp n).reread s.le.cycle (s.os.sourceOf n (s.tab.governing n)) (s.tab.governing n)

/-! ## The event set -/

/-- R143: EVAC; a value that stands already changes nothing. -/
def State.setEvac (active : Bool) (s : State) : State :=
  if active = s.os.evac then s else { s with os := { s.os with evac := active } }.workSelection

/-- R143: FIRE_LOCK. -/
def State.setFireLock (active : Bool) (s : State) : State :=
  if active = s.os.fireLock then s else { s with os := { s.os with fireLock := active } }.workSelection

/-- R149: an output put into the FLICK set or taken out. -/
def flickSet (m : ChannelSet) (n : Fin 48) (on : Bool) : ChannelSet :=
  if on then m ||| channelBit n else m &&& ~~~(channelBit n)

/-- R143 and R149: the FLICK event of one output. -/
def State.setFlick (n : Fin 48) (on : Bool) (s : State) : State :=
  if on = s.os.flick.getLsbD n then s
  else { s with os := { s.os with flick := flickSet s.os.flick n on } }.workSelection

/-- R143: DESK_LOSS. -/
def State.setDeskLoss (active : Bool) (s : State) : State :=
  if active = s.os.deskLoss then s else { s with os := { s.os with deskLoss := active } }.workSelection

/-! ## Desk supervision -/

/-- The supervision record replaced. -/
def State.setSup (x : Supervision) (s : State) : State := { s with os := { s.os with sup := x } }

/-- R155: a DESK report of the record as it stands. -/
def State.deskReport (e : DeskEvent) (station : Station) (s : State) : State :=
  s.addReport (.desk { event := e, station, sup := s.os.sup, deskLoss := s.os.deskLoss })

/-- R153: the desk is lost, by its deadline or by FORCE_EXPIRE. -/
def State.loseDesk (station : Station) (s : State) : State :=
  ((((s.setSup { s.os.sup with deadline := none }).setDeskLoss true).notify .deskLossNotice).deskReport .lost station)

/-- R150: the window of SUPERVISE as clamped. -/
def supWindow (window : Byte) : Nat := max 1 window.toNat

/-- The deadline of a window, in ticks from now. -/
def windowTicks (window : Nat) : Clock := BitVec.ofNat 32 (window * 10)

/-- R150: SUPERVISE while supervision is not enabled. -/
def State.enableSup (station : Station) (window : Nat) (lock : Bool) (s : State) : State :=
  (s.setSup { enabled := true, locked := s.os.sup.locked || lock, window, station := some station,
              deadline := some (s.clock + windowTicks window) }).deskReport (if lock then .locked else .enabled) station

/-- R150: SUPERVISE while supervision is enabled. -/
def State.lockSup (station : Station) (lock : Bool) (s : State) : State :=
  if lock && !s.os.sup.locked then (s.setSup { s.os.sup with locked := true }).deskReport .locked station else s

/-- R150: what a SUPERVISE that is taken does. -/
def State.supervise (station : Station) (window : Nat) (lock : Bool) (s : State) : State :=
  if s.os.sup.enabled then s.lockSup station lock else s.enableSup station window lock

/-- The supervision record as a reply shows it (R150). -/
def State.supBytes (s : State) : List Byte := s.os.sup.bytes s.os.deskLoss

/-- R150: SUPERVISE. -/
def askSupervise (h : Hdr) (window lock : Byte) : Handler :=
  withLevel h.station 1 <|
    need (fun _ => lock = 0 || lock = 1) .eParam <|
    need (fun s => !s.os.sup.enabled || supWindow window = s.os.sup.window) .eLocked fun s =>
      (s.supervise h.station (supWindow window) (lock == 1),
        .ok (s.supervise h.station (supWindow window) (lock == 1)).supBytes)

/-- SUPERVISE (R150). -/
def execSupervise (h : Hdr) (window lock : Byte) (s : State) : Out :=
  arrive (.supervise h window lock) h (fun _ => askSupervise h window lock) s

/-- R152: the deadline moved ahead, and a lost desk restored. -/
def State.keepAlive (station : Station) (s : State) : State :=
  let s1 := s.setSup { s.os.sup with deadline := some (s.clock + windowTicks s.os.sup.window) }
  if s.os.deskLoss then (s1.setDeskLoss false).deskReport .restored station else s1

/-- R152: KEEPALIVE. -/
def askKeepalive (h : Hdr) : Handler :=
  withStation h.station <|
    need (fun s => s.os.sup.enabled && s.os.sup.station = some h.station) .eNothing fun s =>
      (s.keepAlive h.station, .ok (clockBytes (s.clock + windowTicks s.os.sup.window)))

/-- KEEPALIVE (R152). -/
def execKeepalive (h : Hdr) (s : State) : Out := arrive (.keepalive h) h (fun _ => askKeepalive h) s

/-- R153: FORCE_EXPIRE. -/
def askForceExpire (h : Hdr) : Handler :=
  withLevel h.station 1 <|
    need (fun s => s.os.sup.enabled && !s.os.deskLoss) .eNothing fun s => (s.loseDesk h.station, .ok [])

/-- FORCE_EXPIRE (R153). -/
def execForceExpire (h : Hdr) (s : State) : Out := arrive (.forceExpire h) h (fun _ => askForceExpire h) s

/-- R154: what a SUPERVISE_OFF that is taken does. -/
def State.supOff (station : Station) (s : State) : State :=
  ((s.setSup { s.os.sup with enabled := false, station := none, deadline := none }).setDeskLoss false).deskReport
    .disabled station

/-- R154: SUPERVISE_OFF. -/
def askSuperviseOff (h : Hdr) : Handler :=
  withLevel h.station 1 <|
    need (fun s => s.os.sup.enabled) .eNothing <|
    need (fun s => !s.os.sup.locked) .eLocked fun s => (s.supOff h.station, .ok [])

/-- SUPERVISE_OFF (R154). -/
def execSuperviseOff (h : Hdr) (s : State) : Out := arrive (.superviseOff h) h (fun _ => askSuperviseOff h) s

/-! ## Events -/

/-- EVAC_NOTICE (R143). -/
def execEvacNotice (active : Bool) (s : State) : Out := noticed (.evacNotice active) (State.setEvac active) s

/-- FIRE_LOCK_NOTICE (R143). -/
def execFireLockNotice (set : Bool) (s : State) : Out := noticed (.fireLockNotice set) (State.setFireLock set) s

/-- FLICK_NOTICE (R143, R149). -/
def execFlickNotice (output : Fin 48) (on : Bool) (s : State) : Out :=
  noticed (.flickNotice output on) (State.setFlick output on) s

/-- DESK_DEADLINE (R153). -/
def execDeskDeadline (s : State) : Out :=
  event (fun s =>
    if s.os.sup.enabled && !s.os.deskLoss && dueReached s.clock s.os.sup.deadline then s.loseDesk 0 else s) s

end Sys2Proof.Machine
end

