-- ==== Sys2Proof/Machine/Alarm.lean ====
section
/-! DEFINITION. The Alarm Unit: line records and their debounce (R86 to R91), isolation (R92 to R96), the alarm
list and the staging decision (R97 to R103), and the alarm stages (R104 to R123). -/

namespace Sys2Proof.Machine

/-! ## Line records -/

/-- The record of one line replaced. -/
def State.setLine (n : Fin 32) (r : LineRec) (s : State) : State :=
  { s with al := { s.al with lines := s.al.lines.set n r } }

/-- R89 and R90: a record whose debounce starts afresh. -/
def LineRec.restart (r : LineRec) : LineRec := { r with present := none, candidate := none, run := 0 }

/-- R89: the house index and body of the governing LINE entry of a line. -/
def State.lineEntry (s : State) (n : Fin 32) : Option (Nat × LineBody) := s.tab.lineEntry n.val

/-- R91: a LINE report of a line's change of state, its record as it stands. -/
def State.lineReport (n : Fin 32) (previous : LineState) (cause : LineCause) (s : State) : State :=
  s.addReport (.line
    { line := n.val, entry := ((s.lineEntry n).map Prod.fst).getD 0,
      zone := ((s.lineEntry n).map fun e => e.2.zone).getD 0, previous, state := s.al.lines[n].state, cause,
      last := s.al.lines[n].last })

/-- R87: the debounce of a sample in a band. -/
def LineRec.debounce (r : LineRec) (b : Band) : LineRec :=
  if r.candidate = some b then { r with run := countUp 4 r.run } else { r with candidate := some b, run := 1 }

/-- R87: a debounced record takes its candidate as its class. -/
def LineRec.takes (r : LineRec) : Bool := decide (r.run = 4) && decide (r.candidate ≠ r.present)

/-- R88: the line state after a class is taken. -/
def LineState.after (x : LineState) (b : Band) : LineState :=
  match x, b with
  | .alarm, _ => .alarm
  | .isolated, _ => .isolated
  | _, .alarm => .alarm
  | _, .opened => .opened
  | _, .short => .short
  | _, .normal => .normal

/-! ## The stage -/

/-- R104, R106: the new stage is set, with the timers and the acknowledgement of the old one removed, and the
sounders follow (R118). -/
def State.setStage (new : Stage) (s : State) : State :=
  { s with al := { s.al with
      stage := new, enteredAt := s.clock, ackDue := none, invDue := none, ackBy := none,
      sounders := decide (new = .evacuate) && !s.im.inhibit.sounders } }

/-- What a STAGE report says of the change that caused it (R107). -/
structure StageChange where
  cause : StageCause
  station : Station
  entry : Option (Nat × Origin)
  gate : Option Nat
  deriving DecidableEq, Repr

/-- R107: a change caused by a request or a timer. -/
def StageChange.plain (c : StageCause) (st : Station) : StageChange :=
  { cause := c, station := st, entry := none, gate := none }

/-- R107: a STAGE report of the stage as it stands. -/
def State.stageReport (previous : Stage) (c : StageChange) (fireSent : Bool) (s : State) : State :=
  s.addReport (.stage
    { previous, stage := s.al.stage, cause := c.cause, station := c.station, entry := c.entry, gate := c.gate,
      count := s.al.list.length, first := s.al.list.head?, due := s.al.ackDue <|> s.al.invDue,
      knockEnd := s.al.knockEnd, sounders := s.al.sounders, fireSent })

/-- R115: some entry of the list names a zone that has the curtain trigger. -/
def State.listTriggers (s : State) : Bool := s.al.list.any fun e => s.tab.zoneTrigger e.zone

/-- R106 and R143: AL tells OS that EVAC is active, and OS takes it within AL's event. A notice that EVAC is inactive
and waits still, from an ALARM_RESET just before (R123), is older and gives way to it: its effect would be undone.
DESIGN CHOICE, unsafe: notes/assumptions/7.md. -/
def State.tellEvac (s : State) : State :=
  State.setEvac true { s with notices := s.notices.filter fun i => decide (i ≠ .evacNotice false) }

/-- R115: entry into EVACUATE, in the order of its nine steps; the Override Selector and the Curtain Controller
take their notices within it (R106). DESIGN CHOICE, unsafe: notes/assumptions/21.md. -/
def State.evacuate (c : StageChange) (s : State) : State :=
  let was := s.al.stage
  let s1 := (s.setStage .evacuate).stageReport was c s.listTriggers
  let s2 := (if was = .silenced then s1 else s1.tellEvac).notify (.evacuationMessageStart s.tab.params.message)
  let s3 := s2.notifyIf (was = .alert) .staffCallStop
  let s4 := (if was = .quiet then s3.stageLeftQuiet else s3).notify .evacuatedNotice
  (s4.notifyIf s.listTriggers .fireTrigger).notify .stageChangeNotice

/-- R105: seconds of a stored parameter as ticks. -/
def secondsTicks (n : Nat) : Clock := BitVec.ofNat 32 (n * 100)

/-- R109: entry into ALERT for a first entry naming a zone. -/
def State.enterAlert (c : StageChange) (zone : Nat) (s : State) : State :=
  let s0 := s.setStage .alert
  let s1 := { s0 with al := { s0.al with ackDue := some (s.clock + secondsTicks s.tab.params.tAck) } }
  let s2 := (s1.stageReport .quiet c false).stageLeftQuiet
  ((s2.notify (.staffCallStart zone ((s.tab.zone? zone).map ZoneBody.staffMessage))).notify .alertNotice).notify
    .stageChangeNotice

/-- R101: a new entry, already appended, is handed to the stage logic (R108, R113, R116, R117). -/
def State.takeEntry (e : AlarmEntry) (station : Station) (s : State) : State :=
  let change := fun c => { cause := c, station, entry := some (s.al.list.length, e.origin), gate := none : StageChange }
  match s.al.stage with
  | .quiet => if e.staged then s.enterAlert (change .firstEntry) e.zone else s.evacuate (change .firstEntry)
  | .alert => s.evacuate (change .furtherEntry)
  | .investigate => s.evacuate (change .furtherEntry)
  | .silenced => s.evacuate (change .furtherEntry)
  | .evacuate => s.notifyIf (s.tab.zoneTrigger e.zone) .fireTrigger

/-- R97: an entry joins the list at its newest end. -/
def State.appendEntry (e : AlarmEntry) (s : State) : State :=
  { s with al := { s.al with list := s.al.list ++ [e] } }

/-- R100: the staging decision for a line-origin entry. -/
def State.stagedNow (b : LineBody) (s : State) : Bool :=
  decide (b.kind = .detector) && s.tab.zoneStaged b.zone && s.perf.phase.audience && s.al.list.isEmpty &&
    s.al.knockEnd.isNone

/-- R98: the entry that a line adds. -/
def State.lineAlarm (n : Fin 32) (b : LineBody) (s : State) : AlarmEntry :=
  { origin := .line n.val, zone := b.zone, time := s.clock, staged := s.stagedNow b }

/-- R88 and R98: what a line does when a class is taken. -/
def State.takeClass (n : Fin 32) (b : LineBody) (band : Band) (s : State) : State :=
  let was := s.al.lines[n].state
  let s1 := s.setLine n { s.al.lines[n] with present := some band, state := was.after band }
  if was.after band = was then s1
  else if was.after band = .alarm then
    let e := s.lineAlarm n b
    ((s1.appendEntry e).lineReport n was .classTaken).takeEntry e 0
  else s1.lineReport n was .classTaken

/-- R86, R87 and R89: a sample of a line. -/
def State.sampleLine (n : Fin 32) (code : Byte) (s : State) : State :=
  let s1 := s.setLine n { s.al.lines[n] with last := some code }
  match s.lineEntry n with
  | none => s1
  | some (_, b) =>
    if s.al.lines[n].state = .isolated then s1
    else
      let r := s1.al.lines[n].debounce (bandOf code)
      if r.takes then (s1.setLine n r).takeClass n b (bandOf code) else s1.setLine n r

/-- LINE_SAMPLE (R87). -/
def execLineSample (line : Fin 32) (code : Byte) (s : State) : Out := event (State.sampleLine line code) s

/-! ## Changes of the tables -/

/-- R89: a line loses its last governing entry. -/
def State.entryLost (n : Fin 32) (s : State) : State :=
  let r := s.al.lines[n]
  match r.state with
  | .normal => s.setLine n r.restart
  | .alarm => s.setLine n r.restart
  | .isolated => s
  | .opened => (s.setLine n { r.restart with state := .normal }).lineReport n .opened .entryRemoved
  | .short => (s.setLine n { r.restart with state := .normal }).lineReport n .short .entryRemoved

/-- R89: one line at a change of the tables from `old`. -/
def State.lineTables (old : Tables) (s : State) (n : Fin 32) : State :=
  match (old.lineEntry n.val).isSome, (s.tab.lineEntry n.val).isSome with
  | true, false => s.entryLost n
  | false, true => s.setLine n s.al.lines[n].restart
  | _, _ => s

/-- R116: a standing entry's zone has the curtain trigger and did not have it before. -/
def State.gainsTrigger (old : Tables) (s : State) : Bool :=
  s.al.list.any fun e => s.tab.zoneTrigger e.zone && !old.zoneTrigger e.zone

/-- R89 and R116: AL takes a change of the tables from `old`. -/
def State.alarmTables (old : Tables) (s : State) : State :=
  ((List.finRange 32).foldl (State.lineTables old) s).notifyIf (s.al.stage.clearing && s.gainsTrigger old) .fireTrigger

/-! ## Isolation -/

/-- The LINE body of the present entry at a house index. -/
def Tables.lineAt (t : Tables) (i : Nat) : Option LineBody :=
  match t.bodyAt i with
  | some (.line b) => some b
  | _ => none

/-- A line number as the index of a line record. -/
def LineBody.index (b : LineBody) : Fin 32 := Fin.ofNat 32 b.line

/-- R92: the end of an isolation of a number of minutes; none for an indefinite one. -/
def isolationEnd (now : Clock) (minutes : Nat) : Option Clock :=
  if minutes = 0 then none else some (now + BitVec.ofNat 32 (min 30 minutes * 6000))

/-- R92 and R93: the isolation record that ISOLATE sets. -/
def State.isolation (s : State) (minutes : Nat) (st : Station) : Isolation :=
  { kind := if minutes = 0 then .indefinite else .timed, start := s.clock, stop := isolationEnd s.clock minutes,
    station := st }

/-- R93: what an ISOLATE that is taken does. -/
def State.isolate (n : Fin 32) (x : Isolation) (s : State) : State :=
  let r := s.al.lines[n]
  if r.state = .isolated then s.setLine n { r with isolation := some x }
  else (s.setLine n { r.restart with state := .isolated, isolation := some x }).lineReport n r.state .isolate

/-- R92: the governing entry of the line is effect-isolatable. -/
def State.isolatable (s : State) (n : Fin 32) : Bool := ((s.lineEntry n).map fun e => e.2.effectIsolatable).getD false

/-- R92: ISOLATE after the access check. DESIGN CHOICE, unsafe: notes/assumptions/17.md. -/
def askIsolate (h : Hdr) (line : Half) (minutes : Byte) : Handler :=
  withObject h.station line (.house .line) fun x s =>
    match s.tab.lineAt x.index.val with
    | none => (s, .ok [])
    | some b =>
      (need (fun s => s.al.lines[b.index].state ≠ .alarm) .eStage <|
        need (fun s => minutes ≠ 0 || !s.perf.phase.audience) .ePhase <|
        need (fun s => minutes = 0 || !s.perf.phase.audience || s.isolatable b.index) .eParam fun s =>
          (s.isolate b.index (s.isolation minutes.toNat h.station),
            .ok (be1 b.line ++ be1 (s.isolation minutes.toNat h.station).kind.ctorIdx ++
              optional 4 clockBytes (isolationEnd s.clock minutes.toNat)))) s

/-- ISOLATE (R92, R93). -/
def execIsolate (h : Hdr) (line : Half) (minutes : Byte) (s : State) : Out :=
  arrive (.isolate h line minutes) h (fun _ => askIsolate h line minutes) s

/-- R94 and R95: the isolation is removed and the line returns to NORMAL. -/
def State.endIsolation (n : Fin 32) (s : State) : State :=
  s.setLine n { s.al.lines[n].restart with state := .normal, isolation := none }

/-- R94: DEISOLATE after the access check. -/
def askDeisolate (h : Hdr) (line : Half) : Handler :=
  withObject h.station line (.house .line) fun x s =>
    match s.tab.lineAt x.index.val with
    | none => (s, .ok [])
    | some b =>
      (need (fun s => s.al.lines[b.index].state = .isolated) .eNothing fun s =>
        ((s.endIsolation b.index).lineReport b.index .isolated .deisolate, .ok [])) s

/-- DEISOLATE (R94). -/
def execDeisolate (h : Hdr) (line : Half) (s : State) : Out :=
  arrive (.deisolate h line) h (fun _ => askDeisolate h line) s

/-- R96: an ISOLATION report of a record that has ended. -/
def State.isolationReport (n : Fin 32) (x : Isolation) (cause : LineCause) (s : State) : State :=
  s.addReport (.isolation
    { line := n.val, entry := ((s.lineEntry n).map Prod.fst).getD 0, isolation := x, cause })

/-- R95 and R96: a timed isolation ends without a request. -/
def State.expireIsolation (n : Fin 32) (x : Isolation) (cause : LineCause) (s : State) : State :=
  ((s.endIsolation n).isolationReport n x cause).lineReport n .isolated cause

/-- ISOLATION_EXPIRY (R95). -/
def execIsolationExpiry (line : Fin 32) (s : State) : Out :=
  event (fun s =>
    match s.al.lines[line].isolation with
    | none => s
    | some x => if dueReached s.clock x.stop then s.expireIsolation line x .expiry else s) s

/-- R96: one line at CLOSE_HOUSE. -/
def State.closeLine (s : State) (n : Fin 32) : State :=
  match s.al.lines[n].isolation with
  | none => s
  | some x => if x.kind = .timed then s.expireIsolation n x .closeHouse else s

/-- R96: every timed isolation ends at CLOSE_HOUSE, in line-number order. -/
def State.closeLines (s : State) : State := (List.finRange 32).foldl State.closeLine s

/-! ## Reading -/

/-- R102: the data of READ_ALARM_LIST. -/
def State.alarmListBytes (s : State) : List Byte :=
  be1 s.al.stage.ctorIdx ++
    optional 3 (fun a : Acknowledgement => be1 a.station.val ++ optional 1 be1 a.gate) s.al.ackBy ++
    counted AlarmEntry.bytes s.al.list

/-- R102: READ_ALARM_LIST. -/
def askReadAlarmList (h : Hdr) : Handler := withStation h.station fun s => (s, .ok s.alarmListBytes)

/-- READ_ALARM_LIST (R102). -/
def execReadAlarmList (h : Hdr) (s : State) : Out :=
  arrive (.readAlarmList h) h (fun _ => askReadAlarmList h) s

/-- R103: the number of a present class; none is 4. DESIGN CHOICE, unsafe: notes/assumptions/17.md. -/
def bandCode : Option Band → Nat
  | some b => b.ctorIdx
  | none => 4

/-- R103: an isolation, with the time left of a timed one in tenths: after the station, within the optional isolation,
as an optional field of its own. DESIGN CHOICE, unsafe: notes/assumptions/17.md. -/
def Isolation.bytes (x : Isolation) (now : Clock) : List Byte :=
  be1 x.kind.ctorIdx ++ clockBytes x.start ++ optional 4 clockBytes x.stop ++ be1 x.station.val ++
    optional 2 be2 (x.stop.map (tenthsLeft now))

/-- R103: a last code, 255 with a presence byte of 0 when absent. -/
def lastCodeBytes : Option Byte → List Byte
  | some c => [1, c]
  | none => [0, 255]

/-- R103: one line record. -/
def State.lineBytes (s : State) (n : Fin 32) : List Byte :=
  let r := s.al.lines[n]
  be1 n.val ++ be1 (((s.lineEntry n).map Prod.fst).getD 0) ++ be1 r.state.ctorIdx ++ be1 (bandCode r.present) ++
    lastCodeBytes r.last ++ optional 14 (fun x => x.bytes s.clock) r.isolation

/-- R103: READ_LINES: the 32 records in line-number order. -/
def askReadLines (h : Hdr) : Handler :=
  withStation h.station fun s => (s, .ok ((List.finRange 32).flatMap s.lineBytes))

/-- READ_LINES (R103). -/
def execReadLines (h : Hdr) (s : State) : Out := arrive (.readLines h) h (fun _ => askReadLines h) s

/-! ## Stage requests and timers -/

/-- R110: what an acknowledgement does in ALERT. -/
def State.acknowledge (station : Station) (gate : Option Nat) (s : State) : State :=
  let s0 := s.setStage .investigate
  let s1 := { s0 with al := { s0.al with
    invDue := some (s.clock + secondsTicks s.tab.params.tInv), ackBy := some { station, gate } } }
  let c : StageChange :=
    { cause := if gate.isSome then .alarmAck else .acknowledge, station, entry := none, gate }
  ((s1.stageReport .alert c false).notify .staffCallStop).notify .stageChangeNotice

/-- R110: an acknowledgement by ACKNOWLEDGE or through an ALARM_ACK gate. -/
def takeAcknowledge (station : Station) (gate : Option Nat) : Handler :=
  need (fun s => s.al.stage = .alert) .eStage fun s =>
    (s.acknowledge station gate, .ok (clockBytes (s.clock + secondsTicks s.tab.params.tInv)))

/-- R110: ACKNOWLEDGE. -/
def askAcknowledge (h : Hdr) : Handler := withLevel h.station 1 (takeAcknowledge h.station none)

/-- ACKNOWLEDGE (R110). -/
def execAcknowledge (h : Hdr) (s : State) : Out := arrive (.acknowledge h) h (fun _ => askAcknowledge h) s

/-- ACK_TIMEOUT (R111). -/
def execAckTimeout (s : State) : Out :=
  event (fun s =>
    if s.al.stage = .alert && dueReached s.clock s.al.ackDue then s.evacuate (.plain .ackTimeout 0) else s) s

/-- INVESTIGATE_TIMEOUT (R112). -/
def execInvestigateTimeout (s : State) : Out :=
  event (fun s =>
    if s.al.stage = .investigate && dueReached s.clock s.al.invDue then
      s.evacuate (.plain .investigateTimeout 0)
    else s) s

/-- R114: EVACUATE_NOW. -/
def askEvacuateNow (h : Hdr) : Handler :=
  withLevel h.station 1 <|
    need (fun s => s.al.stage = .alert || s.al.stage = .investigate) .eStage fun s =>
      (s.evacuate (.plain .evacuateNow h.station), .ok [])

/-- EVACUATE_NOW (R114). -/
def execEvacuateNow (h : Hdr) (s : State) : Out := arrive (.evacuateNow h) h (fun _ => askEvacuateNow h) s

/-- R117: what a SILENCE that is taken does. -/
def State.silence (station : Station) (s : State) : State :=
  (((s.setStage .silenced).stageReport .evacuate (.plain .silence station) false).notify
    .evacuationMessageStop).notify .stageChangeNotice

/-- R117: SILENCE. -/
def askSilence (h : Hdr) : Handler :=
  withLevel h.station 1 <|
    need (fun s => s.al.stage = .evacuate) .eStage fun s => (s.silence h.station, .ok [])

/-- SILENCE (R117). -/
def execSilence (h : Hdr) (s : State) : Out := arrive (.silence h) h (fun _ => askSilence h) s

/-- R90: one line when the list is emptied. -/
def State.resetLine (s : State) (n : Fin 32) : State :=
  if s.al.lines[n].state = .alarm then
    (s.setLine n { s.al.lines[n].restart with state := .normal }).lineReport n .alarm .alarmReset
  else s

/-- R120: the list is emptied and the lines in ALARM return to NORMAL. -/
def State.emptyList (s : State) : State :=
  (List.finRange 32).foldl State.resetLine { s with al := { s.al with list := [] } }

/-- R121: the notices of the return to QUIET from a stage. -/
def State.quietNotices (was : Stage) (s : State) : State :=
  let s1 := s.notifyIf was.clearing (.evacNotice false)
  let s2 := s1.notifyIf (was = .evacuate) .evacuationMessageStop
  let s3 := s2.notifyIf (was = .alert) .staffCallStop
  (s3.notify .alarmQuiet).notify .stageChangeNotice

/-- R120: what an ALARM_RESET that is taken does. -/
def State.resetAlarm (station : Station) (s : State) : State :=
  let s1 := s.emptyList.setStage .quiet
  let s2 := { s1 with al := { s1.al with knockEnd := some (s.clock + Config.knockTicks) } }
  (s2.stageReport s.al.stage (.plain .alarmReset station) false).quietNotices s.al.stage

/-- R22: a paired request is preceded by its enable, not expired. At the very time of the expiry a request that
is taken first is still handed on. DEDUCED, unsafe: notes/assumptions/11.md. -/
def pairedWith (a : PairedAction) (p : Option Paired) (s : State) : Bool :=
  match p with
  | some r => decide (r.action = a) && (decide (s.clock = r.expiry) || !reached s.clock r.expiry)
  | none => false

/-- R120: ALARM_RESET; `p` is the paired record the station held. -/
def askAlarmReset (h : Hdr) (p : Option Paired) : Handler :=
  withLevel h.station 1 <|
    need (pairedWith .alarm p) .eSequence <|
    need (fun s => s.al.stage ≠ .quiet) .eStage fun s =>
      (s.resetAlarm h.station, .ok (be1 s.al.list.length ++ clockBytes (s.clock + Config.knockTicks)))

/-- ALARM_RESET (R120). -/
def execAlarmReset (h : Hdr) (s : State) : Out := arrive (.alarmReset h) h (askAlarmReset h) s

/-- KNOCK_WINDOW_END (R122). -/
def execKnockWindowEnd (s : State) : Out :=
  event (fun s =>
    if dueReached s.clock s.al.knockEnd then { s with al := { s.al with knockEnd := none } } else s) s

/-! ## Gate actions and the sounder inhibit -/

/-- R99: the results of a MANUAL_CALL, in the order of its table. -/
inductive CallResult where
  | alreadyStanding | added
  deriving DecidableEq, Repr

/-- R99: the gate-origin entries that stand. -/
def State.gateEntries (s : State) : Nat :=
  (s.al.list.filter fun e => match e.origin with | .gate _ => true | .line _ => false).length

/-- R99: the position, from 1, of the entry of a gate. -/
def State.gatePosition (s : State) (gate : Nat) : Option Nat :=
  (s.al.list.findIdx? fun e => decide (e.origin = .gate gate)).map (· + 1)

/-- R99: the entry that a gate adds. -/
def State.gateAlarm (s : State) (gate zone : Nat) : AlarmEntry :=
  { origin := .gate gate, zone, time := s.clock, staged := false }

/-- R99: a MANUAL_CALL gate action. DESIGN CHOICE, unsafe: notes/assumptions/21.md. -/
def takeManualCall (station : Station) (gate zone : Nat) : Handler := fun s =>
  match s.gatePosition gate with
  | some p => (s, .ok (be1 CallResult.alreadyStanding.ctorIdx ++ be1 p))
  | none =>
    if 16 ≤ s.gateEntries then (s, .refuse .eFull)
    else
      ((s.appendEntry (s.gateAlarm gate zone)).takeEntry (s.gateAlarm gate zone) station,
        .ok (be1 CallResult.added.ctorIdx ++ be1 (s.al.list.length + 1)))

/-- R118 and R119: the sounders follow the stage and the sounder inhibit. -/
def State.setSounders (s : State) : State :=
  { s with al := { s.al with sounders := decide (s.al.stage = .evacuate) && !s.im.inhibit.sounders } }

/-- R118: one of the four sounder outputs; all are driven together, and off in reset. -/
def State.sounderOn (s : State) (_ : Fin 4) : Bool := !s.inReset && s.al.sounders

end Sys2Proof.Machine
end

