-- ==== Sys2Proof/Machine/Calls.lean ====
section
/-! DEFINITION. The Call Unit: circuits, generators, message channels and the page with their arbiters, the
evacuation message and the staff call, the call queue and the playback of calls (R156 to R179). -/

namespace Sys2Proof.Machine

/-! ## Circuits and their arbiters -/

/-- R156: the priority of a holder. -/
def Holder.priority : Holder → Nat
  | .evacuation => 0
  | .staffCall => 1
  | .page => 2
  | .call _ => 3

/-- R157: the default source of a circuit output is programme. -/
def State.defaultProgramme (s : State) (n : Nat) : Bool :=
  decide (s.perf.phase = .act) && ((s.tab.circuitEntry n).map fun e => e.2.programme).getD false

/-- A set of outputs from a test of each. -/
def circuitSetOf (f : Fin 16 → Bool) : CircuitSet :=
  (List.finRange 16).foldl (fun m n => if f n then m ||| circuitBit n else m) 0

/-- The circuits that a user holds. -/
def Calls.heldBy (u : Calls) (h : Holder) : CircuitSet := circuitSetOf fun n => decide (u.circuits[n].holder = some h)

/-- The circuits that are free. -/
def Calls.freeCircuits (u : Calls) : CircuitSet := circuitSetOf fun n => u.circuits[n].holder.isNone

/-- R158: a circuit is granted to a user of priority `p`: it is free or held at a greater number. -/
def Circuit.grantable (c : Circuit) (p : Nat) : Bool :=
  match c.holder with
  | none => true
  | some h => decide (p < h.priority)

/-- R158: the circuits of a set that a user of priority `p` is granted. -/
def Calls.grantable (u : Calls) (p : Nat) (m : CircuitSet) : CircuitSet :=
  circuitSetOf fun n => m.getLsbD n && u.circuits[n].grantable p

/-- R158: circuits granted to a user. -/
def State.grant (h : Holder) (m : CircuitSet) (s : State) : State :=
  { s with cu := { s.cu with circuits := Vector.ofFn fun n : Fin 16 =>
      if (m.getLsbD n) then { s.cu.circuits[n] with holder := some h } else s.cu.circuits[n] } }

/-- R157 and R158: the circuits that a user holds are released and carry their default source. -/
def State.releaseCircuits (h : Holder) (s : State) : State :=
  { s with cu := { s.cu with circuits := Vector.ofFn fun n : Fin 16 =>
      if s.cu.circuits[n].holder = some h then { holder := none, programme := s.defaultProgramme n }
      else s.cu.circuits[n] } }

/-- R157: the default source of every free circuit is set. -/
def State.setDefaults (s : State) : State :=
  { s with cu := { s.cu with circuits := Vector.ofFn fun n : Fin 16 =>
      if s.cu.circuits[n].holder.isNone then { s.cu.circuits[n] with programme := s.defaultProgramme n }
      else s.cu.circuits[n] } }

/-! ## Message channels and generators -/

/-- A message channel replaced. -/
def State.setChannel (i : Fin 2) (c : MessageChannel) (s : State) : State :=
  { s with cu := { s.cu with channels := s.cu.channels.set i c } }

/-- R159: a play of a message is started for a holder. -/
def State.playMessage (i : Fin 2) (h : Holder) (number : Nat) (s : State) : State :=
  s.setChannel i { holder := some h, trigger := true, number, limit := some (s.clock + Config.playTicks) }

/-- R159: the trigger is dropped and the play limit removed; the channel keeps its holder. -/
def State.stopPlay (i : Fin 2) (s : State) : State :=
  s.setChannel i { s.cu.channels[i] with trigger := false, limit := none }

/-- A released message channel: free, its trigger dropped; the number stands as last set. -/
def MessageChannel.released (c : MessageChannel) : MessageChannel :=
  { c with holder := none, trigger := false, limit := none }

/-- The message channels that a user holds are released. -/
def State.releaseChannels (h : Holder) (s : State) : State :=
  { s with cu := { s.cu with channels := Vector.ofFn fun i : Fin 2 =>
      if s.cu.channels[i].holder = some h then s.cu.channels[i].released else s.cu.channels[i] } }

/-- A generator replaced. -/
def State.setGenerator (i : Fin 2) (g : Generator) (s : State) : State :=
  { s with cu := { s.cu with generators := s.cu.generators.set i g } }

/-- The generators that a call holds are released. -/
def State.releaseGenerators (id : Byte) (s : State) : State :=
  { s with cu := { s.cu with generators := Vector.ofFn fun i : Fin 2 =>
      if s.cu.generators[i].holder = some id then { holder := none, note := none } else s.cu.generators[i] } }

/-! ## The call queue -/

/-- The record of a call id. -/
def Calls.find (u : Calls) (id : Byte) : Option Call := u.queue.find? fun c => decide (c.id = id)

/-- The record of a call replaced where it stands. -/
def State.setCall (c : Call) (s : State) : State :=
  { s with cu := { s.cu with queue := s.cu.queue.map fun x => if x.id = c.id then c else x } }

/-- R163: where a due time stands in the order of the queue, as R26 reads it at clock value `now`: first those that
are reached, from the one reached longest ago on, then those to come. -/
def dueKey (now d : Clock) : Nat := (d - now + 0x7FFFFFFF#32).toNat

/-- R163: a record stands before another. -/
def Call.before (now : Clock) (a b : Call) : Bool :=
  decide (dueKey now a.due < dueKey now b.due) ||
    (decide (dueKey now a.due = dueKey now b.due) && decide (a.entryNo < b.entryNo))

/-- R163: a record joins the queue at its place. DESIGN CHOICE, unsafe: notes/assumptions/18.md. -/
def insertCall (now : Clock) (c : Call) : List Call → List Call
  | [] => [c]
  | x :: xs => if c.before now x then c :: x :: xs else x :: insertCall now c xs

/-- R162: the first id not in use from the next one on. -/
def Calls.freeId (u : Calls) : Byte :=
  (((List.range 256).map fun k => u.nextId + BitVec.ofNat 8 k).find? fun i => (u.find i).isNone).getD u.nextId

/-- R162: the records renumbered from 0 in the order of their entry numbers. -/
def renumber (q : List Call) : List Call :=
  q.map fun c => { c with entryNo := (q.filter fun x => decide (x.entryNo < c.entryNo)).length }

/-- R162: the entry numbers started over when the next one would pass 4294967295. -/
def Calls.roomForEntry (u : Calls) : Calls :=
  if 4294967295 < u.nextEntry then { u with queue := renumber u.queue, nextEntry := u.queue.length } else u

/-- R162 and R163: a record is entered, with the next call id and entry number. -/
def Calls.enter (u : Calls) (now : Clock) (mk : Byte → Nat → Call) : Calls × Call :=
  let u1 := u.roomForEntry
  let c := mk u1.freeId u1.nextEntry
  ({ u1 with queue := insertCall now c u1.queue, nextId := u1.freeId + 1, nextEntry := u1.nextEntry + 1 }, c)

/-- R164: a fresh record. -/
def Call.fresh (owner : Station) (origin : CallOrigin) (due : Clock) (kind : CallKind) (zones : List Nat) (repeats : Nat)
    (id : Byte) (entryNo : Nat) : Call :=
  { id, owner, origin, entryNo, due, kind, zones, repeats, state := .queued, source := none, granted := 0,
    missed := 0, done := 0, pattern := [], playback := .idle }

/-! ## Flicks -/

/-- The channel outputs that a flick owns, in output order. -/
def Calls.owned (u : Calls) (id : Byte) : List (Fin 48) :=
  (List.finRange 48).filter fun n => decide (u.flickOwner[n] = some id)

/-- R170: a call becomes the flick owner of a set of outputs. -/
def State.takeOutputs (id : Byte) (m : ChannelSet) (s : State) : State :=
  { s with cu := { s.cu with flickOwner := Vector.ofFn fun n : Fin 48 =>
      if (m.getLsbD n) then some id else s.cu.flickOwner[n] } }

/-- R170: a call is removed as flick owner of its outputs. -/
def State.dropOutputs (id : Byte) (s : State) : State :=
  { s with cu := { s.cu with flickOwner := Vector.ofFn fun n : Fin 48 =>
      if s.cu.flickOwner[n] = some id then none else s.cu.flickOwner[n] } }

/-- R170: the dip-start or dip-end notice is sent for every output that a call owns. -/
def State.dipNotices (id : Byte) (on : Bool) (s : State) : State :=
  (s.cu.owned id).foldl (fun s n => s.notify (.flickNotice n on)) s

/-- A dip of the call stands. -/
def Call.dipping (c : Call) : Bool :=
  match c.playback with
  | .dip _ => true
  | _ => false

/-! ## Ending calls -/

/-- R173: a CALL report of a call. -/
def State.callReport (c : Call) (owned : Nat) (e : CallEvent) (why : Option CallReason) (lost : CircuitSet) (s : State) :
    State :=
  s.addReport (.call { subject := .call c owned, event := e, reason := why, granted := c.granted,
                       missed := c.missed, lost })

/-- Every resource that a call holds is released. -/
def State.releaseCall (id : Byte) (s : State) : State :=
  (((s.releaseCircuits (.call id)).releaseChannels (.call id)).releaseGenerators id).dropOutputs id

/-- A record leaves the queue. -/
def State.removeCall (id : Byte) (s : State) : State :=
  { s with cu := { s.cu with queue := s.cu.queue.filter fun c => decide (c.id ≠ id) } }

/-- R173: a call ends: a dip that stands is ended, its resources are released, its record is removed, and its
CALL report follows with no circuit granted; SQ is told of an ABANDONED one (R167). DESIGN CHOICE, unsafe:
notes/assumptions/23.md. -/
def State.endCall (c : Call) (e : CallEvent) (why : Option CallReason) (s : State) : State :=
  let s1 := if c.dipping then s.dipNotices c.id false else s
  (((s1.releaseCall c.id).removeCall c.id).callReport { c with granted := 0 } (s.cu.owned c.id).length e why 0).notifyIf
    (e = .abandoned) .callAbandonedNotice

/-- A call is given up. -/
def State.abandon (c : Call) (why : CallReason) (s : State) : State := s.endCall c .abandoned (some why)

/-- R171: a call has lost circuits: it plays on with the rest, or is given up when it lost its last. Its report then
shows them as missed. DESIGN CHOICE, unsafe: notes/assumptions/23.md. -/
def State.callLoses (lost : CircuitSet) (s : State) (c : Call) : State :=
  let took := c.granted &&& lost
  let c1 := { c with granted := c.granted &&& ~~~lost, missed := c.missed ||| took }
  if took = 0 then s
  else if c1.granted = 0 then s.abandon c1 .preempted
  else (s.setCall c1).callReport c1 (s.cu.owned c.id).length .partialLoss none took

/-- R171: a call on a message channel that another user takes is given up. -/
def State.preemptChannel (i : Fin 2) (s : State) : State :=
  match s.cu.channels[i].holder with
  | some (.call id) =>
    match s.cu.find id with
    | some c => s.abandon c .preempted
    | none => s
  | _ => s

/-! ## The page -/

/-- R173: a CALL report of the page. -/
def State.pageReport (p : Page) (e : CallEvent) (why : Option CallReason) (granted lost : CircuitSet) (s : State) : State :=
  s.addReport (.call { subject := .page p.owner p.zones, event := e, reason := why, granted,
                       missed := p.missed, lost })

/-- R175: the page ends: the input and every circuit it holds are released. -/
def State.endPage (p : Page) (e : CallEvent) (why : CallReason) (s : State) : State :=
  let s1 := s.releaseCircuits .page
  ({ s1 with cu := { s1.cu with page := none } }).pageReport p e (some why) 0 0

/-- R175: the page has lost circuits; `lost` no longer stand among those it holds. They join the page's missed circuits,
the last ones too, and its PARTIAL report carries them, as R162 and R171 say of a call.
DESIGN CHOICE, unsafe: notes/assumptions/33.md. -/
def State.pageLoses (lost : CircuitSet) (s : State) : State :=
  match s.cu.page with
  | none => s
  | some p =>
    let p1 := { p with missed := p.missed ||| lost }
    if lost = 0 then s
    else if s.cu.heldBy .page = 0 then s.endPage p1 .abandoned .preempted
    else ({ s with cu := { s.cu with page := some p1 } }).pageReport p1 .partialLoss none (s.cu.heldBy .page) lost

/-- R158: a user takes what it can of a set of circuits, and each holder preempted acts on its loss: the calls in
queue order, then the page. DESIGN CHOICE, unsafe: notes/assumptions/20.md. -/
def State.takeCircuits (h : Holder) (m : CircuitSet) (s : State) : State :=
  let got := s.cu.grantable h.priority m
  let fromPage := s.cu.heldBy .page &&& got
  ((s.cu.queue.filter fun c => decide (c.state = .playing)).foldl (State.callLoses got) (s.grant h got)).pageLoses
    fromPage

/-! ## Starting calls -/

/-- R168: the ticks of a note. -/
def Note.ticks (n : Note) : Clock := BitVec.ofNat 32 (5 * n.duration)

/-- R168: a play of a pattern begins on a generator. -/
def State.playChime (i : Fin 2) (c : Call) (s : State) : State :=
  match c.pattern with
  | [] => (s.setGenerator i { holder := some c.id, note := none }).setCall { c with playback := .note [] s.clock }
  | n :: rest =>
    (s.setGenerator i { holder := some c.id, note := some n }).setCall
      { c with playback := .note rest (s.clock + n.ticks) }

/-- R169: a play of a call's message begins on a channel. -/
def State.playCallMessage (i : Fin 2) (number : Nat) (c : Call) (s : State) : State :=
  (s.playMessage i (.call c.id) number).setCall { c with playback := .message }

/-- R170: a dip of a flick begins. -/
def State.startDip (c : Call) (s : State) : State :=
  (s.setCall { c with playback := .dip (s.clock + Config.dipTicks) }).dipNotices c.id true

/-- R166: the lower-numbered free generator. -/
def Calls.freeGenerator (u : Calls) : Option (Fin 2) :=
  (List.finRange 2).find? fun i => u.generators[i].holder.isNone

/-- R166: the lower-numbered free message channel. -/
def Calls.freeChannel (u : Calls) : Option (Fin 2) :=
  (List.finRange 2).find? fun i => u.channels[i].holder.isNone

/-- R166: a record becomes PLAYING with its circuits and its source. -/
def Call.started (c : Call) (source : Option (Fin 2)) (granted missed : CircuitSet) (pattern : List Note) : Call :=
  { c with state := .playing, source, granted, missed, pattern }

/-- R166: a record takes every free circuit of its set and reports STARTED. -/
def State.startOn (c : Call) (s : State) : State :=
  ((s.grant (.call c.id) c.granted).setCall c).callReport c 0 .started none 0

/-- R170: a FLICK record starts. -/
def State.startFlick (c : Call) (s : State) : State :=
  let c1 := c.started none 0 0 []
  let s1 := (s.takeOutputs c.id (s.tab.resolveChannels c.zones)).setCall c1
  (s1.callReport c1 (s1.cu.owned c.id).length .started none 0).startDip c1

/-- The pattern of a number. -/
def Tables.pattern (t : Tables) (p : Nat) : List Note := if h : p < 8 then t.patterns[p] else []

/-- R166: what a scan does with one WAITING record. -/
def State.scanCall (c : Call) (s : State) : State :=
  let set := s.tab.resolveCircuits c.zones
  let free := set &&& s.cu.freeCircuits
  match c.kind with
  | .flick => s.startFlick c
  | .chime p =>
    if set = 0 then s.abandon c .noCircuits
    else match s.cu.freeGenerator with
      | none => s
      | some i =>
        if free = 0 then s
        else
          let c1 := c.started (some i) free (set &&& ~~~free) (s.tab.pattern p)
          (s.startOn c1).playChime i c1
  | .message number =>
    if set = 0 then s.abandon c .noCircuits
    else match s.cu.freeChannel with
      | none => s
      | some i =>
        if free = 0 then s
        else
          let c1 := c.started (some i) free (set &&& ~~~free) []
          (s.startOn c1).playCallMessage i number c1

/-- R166: one record of a scan, as it stands when the scan comes to it. -/
def State.scanOne (s : State) (id : Byte) : State :=
  match s.cu.find id with
  | some c => if c.state = .waiting then s.scanCall c else s
  | none => s

/-- R166: a start scan: the WAITING records in queue order; none starts in EVACUATE or SILENCED.
DEDUCED, unsafe: notes/assumptions/19.md. -/
def State.scan (s : State) : State :=
  if s.al.stage.clearing then s else (s.cu.queue.map Call.id).foldl State.scanOne s

/-! ## Requests -/

/-- R164: the kind of a call from its two parameter bytes; the number is not read for FLICK. -/
def requestKind (kind number : Byte) : Option CallKind :=
  callKindOf kind.toNat (if kind = 2 then none else some number.toNat)

/-- R164 and R174: a zone count lies in 1..8. -/
def zoneCountOk (zones : List Half) : Bool := 1 ≤ zones.length && zones.length ≤ 8

/-- The position, from 1, of a call in the queue. -/
def Calls.position (u : Calls) (id : Byte) : Nat :=
  ((u.queue.findIdx? fun c => decide (c.id = id)).map (· + 1)).getD 0

/-- R164: a DIRECT record is entered. -/
def enterDirect (h : Hdr) (due : State → Clock) (kind : CallKind) (repeats : Byte) (zones : List Selector) : Handler :=
  need (fun s => s.cu.queue.length < Config.queueRecords) .eFull fun s =>
    let e := s.cu.enter s.clock (Call.fresh h.station .direct (due s) kind (zones.map fun x => x.index.val)
      (clamp 1 5 repeats.toNat))
    ({ s with cu := e.1 }, .ok ([e.2.id] ++ clockBytes e.2.due ++ be1 (e.1.position e.2.id)))

/-- R164: CALL_NOW and CALL_AT, decoded before the access check. -/
def askCall (h : Hdr) (due : State → Clock) (kind number repeats : Byte) (zones : List Half) : Handler :=
  match requestKind kind number with
  | none => refused .eParam
  | some k =>
    if zoneCountOk zones then withObjects h.station zones (.house .zone) (enterDirect h due k repeats)
    else refused .eParam

/-- CALL_NOW (R164). -/
def execCallNow (h : Hdr) (kind number repeats : Byte) (zones : List Half) (s : State) : Out :=
  arrive (.callNow h kind number repeats zones) h (fun _ => askCall h State.clock kind number repeats zones) s

/-- CALL_AT (R164). -/
def execCallAt (h : Hdr) (due : Clock) (kind number repeats : Byte) (zones : List Half) (s : State) : Out :=
  arrive (.callAt h due kind number repeats zones) h (fun _ => askCall h (fun _ => due) kind number repeats zones) s

/-- R165: the requesting station may cancel a record. -/
def State.mayCancel (s : State) (st : Station) (c : Call) : Bool :=
  decide (c.owner = st) || decide ((s.cpl st).val ≤ 1)

/-- R165: CALL_CANCEL. -/
def askCallCancel (h : Hdr) (id : Byte) : Handler :=
  withStation h.station fun s =>
    match s.cu.find id with
    | none => (s, .refuse .eNothing)
    | some c =>
      if s.mayCancel h.station c then
        ((s.endCall c .cancelled (some .request)).scan, .ok (be1 c.state.ctorIdx))
      else (s, .deny (.fixed .level))

/-- CALL_CANCEL (R165). -/
def execCallCancel (h : Hdr) (id : Byte) (s : State) : Out :=
  arrive (.callCancel h id) h (fun _ => askCallCancel h id) s

/-- R163: READ_QUEUE. -/
def askReadQueue (h : Hdr) : Handler :=
  withStation h.station fun s => (s, .ok (counted Call.bytes s.cu.queue))

/-- READ_QUEUE (R163). -/
def execReadQueue (h : Hdr) (s : State) : Out := arrive (.readQueue h) h (fun _ => askReadQueue h) s

/-- R174: the page is opened on a set of circuits. -/
def State.openPage (owner : Station) (zones : List Nat) (m : CircuitSet) (s : State) : State :=
  let p : Page := { owner, zones, limit := s.clock + Config.playTicks, missed := m &&& ~~~(s.cu.grantable 2 m) }
  let s1 := { s with cu := { s.cu with page := some p } }
  ((s1.takeCircuits .page m).pageReport p .started none (s.cu.grantable 2 m) 0).scan

/-- R174: PAGE_OPEN after the access check. -/
def takePage (h : Hdr) (zones : List Nat) : Handler :=
  need (fun s => s.cu.page.isNone) .eFull <|
    need (fun s => s.tab.resolveCircuits zones ≠ 0) .eNothing <|
    need (fun s => s.cu.grantable 2 (s.tab.resolveCircuits zones) ≠ 0) .eStage fun s =>
      let m := s.tab.resolveCircuits zones
      let got := s.cu.grantable 2 m
      let data := circuitBytes got ++ circuitBytes (m &&& ~~~got)
      (s.openPage h.station zones m, if m &&& ~~~got = 0 then .ok data else .part data)

/-- R174: PAGE_OPEN. -/
def askPageOpen (h : Hdr) (zones : List Half) : Handler :=
  if zoneCountOk zones then
    withObjects h.station zones (.house .zone) fun xs => takePage h (xs.map fun x => x.index.val)
  else refused .eParam

/-- PAGE_OPEN (R174). -/
def execPageOpen (h : Hdr) (zones : List Half) (s : State) : Out :=
  arrive (.pageOpen h zones) h (fun _ => askPageOpen h zones) s

/-- R175: PAGE_CLOSE. -/
def askPageClose (h : Hdr) : Handler :=
  withStation h.station fun s =>
    match s.cu.page with
    | none => (s, .refuse .eNothing)
    | some p => ((s.endPage p .done .closed).scan, .ok [])

/-- PAGE_CLOSE (R175). -/
def execPageClose (h : Hdr) (s : State) : Out := arrive (.pageClose h) h (fun _ => askPageClose h) s

/-- PAGE_LIMIT (R175). -/
def execPageLimit (s : State) : Out :=
  event (fun s =>
    match s.cu.page with
    | none => s
    | some p => if reached s.clock p.limit then (s.endPage p .done .limit).scan else s) s

/-! ## Due times of calls -/

/-- CALL_DUE (R166). -/
def execCallDue (id : Byte) (s : State) : Out :=
  event (fun s =>
    match s.cu.find id with
    | none => s
    | some c =>
      if c.state = .queued && reached s.clock c.due then (s.setCall { c with state := .waiting }).scan else s) s

/-- CALL_STALE (R167). -/
def execCallStale (id : Byte) (s : State) : Out :=
  event (fun s =>
    match s.cu.find id with
    | none => s
    | some c =>
      if c.state = .waiting && reached s.clock (c.due + Config.staleTicks) then (s.abandon c .stale).scan else s) s

/-! ## Notices of the other blocks -/

/-- R172: the FLICK calls between a dip and the next are given up; so is one in the return after its last dip, which
R172 does not name. DESIGN CHOICE, unsafe: notes/assumptions/20.md. -/
def State.endFlicks (s : State) : State :=
  (s.cu.queue.filter fun c => match c.playback with | .back _ => true | _ => false).foldl
    (fun s c => s.abandon c .evacuation) s

/-- STAGE_CHANGE_NOTICE (R166, R172). -/
def execStageChangeNotice (s : State) : Out :=
  noticed .stageChangeNotice (fun s => (if s.al.stage.clearing then s.endFlicks else s).scan) s

/-- PHASE_CHANGE_NOTICE (R157, R166). -/
def execPhaseChangeNotice (s : State) : Out := noticed .phaseChangeNotice (fun s => s.setDefaults.scan) s

/-- R179: CU takes a change of the tables. -/
def State.callTables (s : State) : State := s.setDefaults.scan

/-- R172: a PLAYING CHIME or MESSAGE call. -/
def Call.sounding (c : Call) : Bool := decide (c.state = .playing) && decide (c.kind ≠ .flick)

/-- R172: a sounding call loses all its circuits to the evacuation message, and its report shows them as missed.
DESIGN CHOICE, unsafe: notes/assumptions/23.md. -/
def State.evacuateCall (s : State) (c : Call) : State :=
  s.abandon { c with granted := 0, missed := c.missed ||| c.granted } .evacuation

/-- R160: step 1 of the start of the evacuation message: the call on channel 0 is preempted. -/
def State.clearChannelZero (s : State) : State :=
  match s.cu.channels[0].holder with
  | some (.call id) =>
    match s.cu.find id with
    | some c => s.evacuateCall c
    | none => s
  | _ => s

/-- R160: step 2: every circuit is taken from the calls, in queue order, and from the page.
DESIGN CHOICE, unsafe: notes/assumptions/20.md. -/
def State.takeEveryCircuit (s : State) : State :=
  let lost := s.cu.heldBy .page
  ((s.cu.queue.filter Call.sounding).foldl State.evacuateCall (s.grant .evacuation (BitVec.allOnes 16))).pageLoses lost

/-- R160, R172 and R175: the evacuation message takes channel 0, then every circuit, and starts its play. -/
def State.startEvacuation (number : Nat) (s : State) : State :=
  let s1 := s.clearChannelZero.takeEveryCircuit.playMessage 0 .evacuation number
  { s1 with cu := { s1.cu with evacuation := some number } }

/-- EVACUATION_MESSAGE_START (R160). -/
def execEvacuationMessageStart (number : Nat) (s : State) : Out :=
  noticed (.evacuationMessageStart number)
    (fun s => (if s.al.stage.clearing then (s.startEvacuation number).endFlicks else s.startEvacuation number).scan) s

/-- R160: the evacuation message stops and releases everything. -/
def State.stopEvacuation (s : State) : State :=
  if s.cu.evacuation.isSome then
    let s1 := (s.releaseCircuits .evacuation).releaseChannels .evacuation
    ({ s1 with cu := { s1.cu with evacuation := none } }).scan
  else s

/-- EVACUATION_MESSAGE_STOP (R160). -/
def execEvacuationMessageStop (s : State) : Out := noticed .evacuationMessageStop State.stopEvacuation s

/-- R161: the staff circuits of a zone. -/
def Tables.staffCircuits (t : Tables) (zone : Nat) : CircuitSet :=
  circuitSetOf fun n =>
    (t.zoneCircuits zone).getLsbD n && ((t.circuitEntry n).map fun e => e.2.staff).getD false

/-- The staff call's record replaced. -/
def State.setStaff (x : Option StaffCall) (s : State) : State := { s with cu := { s.cu with staff := x } }

/-- R161: the staff call gives up what it holds. -/
def State.releaseStaff (s : State) : State :=
  ((s.releaseCircuits .staffCall).releaseChannels .staffCall).setStaff none

/-- R161: a play of the staff message starts, with its repeat due. -/
def State.playStaff (x : StaffCall) (number : Nat) (s : State) : State :=
  (s.playMessage 1 .staffCall number).setStaff
    (some { x with repeatDue := some (s.clock + Config.staffTicks), again := false })

/-- R161: the staff call starts. DESIGN CHOICE, unsafe: notes/assumptions/31.md. -/
def State.startStaff (zone : Nat) (message : Option Nat) (s : State) : State :=
  match message with
  | none => s.setStaff (some { zone, message := none, repeatDue := none, again := false })
  | some number =>
    if s.tab.staffCircuits zone = 0 then
      s.setStaff (some { zone, message := none, repeatDue := none, again := false })
    else
      ((s.preemptChannel 1).takeCircuits .staffCall (s.tab.staffCircuits zone)).playStaff
        { zone, message := some number, repeatDue := none, again := false } number

/-- STAFF_CALL_START (R161). A staff call that still stands is released first. -/
def execStaffCallStart (zone : Nat) (message : Option Nat) (s : State) : Out :=
  noticed (.staffCallStart zone message) (fun s => (s.releaseStaff.startStaff zone message).scan) s

/-- R161: the staff call stops. -/
def State.stopStaff (s : State) : State := if s.cu.staff.isSome then s.releaseStaff.scan else s

/-- STAFF_CALL_STOP (R161). -/
def execStaffCallStop (s : State) : Out := noticed .staffCallStop State.stopStaff s

/-- STAFF_REPEAT_DUE (R161). -/
def execStaffRepeatDue (s : State) : Out :=
  event (fun s =>
    match s.cu.staff with
    | none => s
    | some x =>
      if dueReached s.clock x.repeatDue then
        if s.cu.channels[1].trigger then s.setStaff (some { x with repeatDue := none, again := true })
        else match x.message with
          | some number => s.playStaff x number
          | none => s
      else s) s

/-! ## Playback -/

/-- R161: a play of the staff call has ended; the next begins when its repeat due has passed. -/
def State.staffEnded (s : State) : State :=
  match s.cu.staff with
  | none => s
  | some x =>
    match x.message with
    | none => s
    | some number => if x.again then s.playStaff x number else s

/-- R169: a play of a MESSAGE call has ended. -/
def State.messageEnded (c : Call) (s : State) : State :=
  if c.repeats ≤ c.done + 1 then (s.endCall { c with done := c.done + 1 } .done none).scan
  else s.setCall { c with done := c.done + 1, playback := .gap (s.clock + Config.gapTicks) }

/-- R159 to R161: a play that runs on a channel has ended for the evacuation message or the staff call, the
trigger being dropped. -/
def State.playEnded (i : Fin 2) (h : Holder) (s : State) : State :=
  match h with
  | .evacuation => s.playMessage i .evacuation s.cu.channels[i].number
  | .staffCall => (s.stopPlay i).staffEnded
  | .page => s.stopPlay i
  | .call _ => s.stopPlay i

/-- MESSAGE_END_SIGNAL (R159); ignored while the trigger is dropped. -/
def execMessageEndSignal (channel : Fin 2) (s : State) : Out :=
  event (fun s =>
    if s.cu.channels[channel].trigger then
      match s.cu.channels[channel].holder with
      | none => s.stopPlay channel
      | some (.call id) =>
        match s.cu.find id with
        | some c => (s.stopPlay channel).messageEnded c
        | none => s.stopPlay channel
      | some h => s.playEnded channel h
    else s) s

/-- PLAY_LIMIT (R159, R169). -/
def execPlayLimit (channel : Fin 2) (s : State) : Out :=
  event (fun s =>
    if s.cu.channels[channel].trigger && dueReached s.clock s.cu.channels[channel].limit then
      match s.cu.channels[channel].holder with
      | none => s.stopPlay channel
      | some (.call id) =>
        match s.cu.find id with
        | some c => ((s.stopPlay channel).abandon c .player).scan
        | none => s.stopPlay channel
      | some h => s.playEnded channel h
    else s) s

/-- The record of the call that holds a generator. -/
def Calls.chimeOn (u : Calls) (i : Fin 2) : Option Call := u.generators[i].holder.bind u.find

/-- The record of the call that holds a message channel. -/
def Calls.messageOn (u : Calls) (i : Fin 2) : Option Call :=
  match u.channels[i].holder with
  | some (.call id) => u.find id
  | _ => none

/-- R168: a note of a call has ended on a generator, `rest` being the notes after it. -/
def State.noteEnded (i : Fin 2) (c : Call) (rest : List Note) (s : State) : State :=
  match rest with
  | n :: more =>
    (s.setGenerator i { holder := some c.id, note := some n }).setCall
      { c with playback := .note more (s.clock + n.ticks) }
  | [] =>
    if c.repeats ≤ c.done + 1 then (s.endCall { c with done := c.done + 1 } .done none).scan
    else
      (s.setGenerator i { holder := some c.id, note := none }).setCall
        { c with done := c.done + 1, playback := .gap (s.clock + Config.gapTicks) }

/-- CHIME_NOTE_END (R168). -/
def execChimeNoteEnd (generator : Fin 2) (s : State) : Out :=
  event (fun s =>
    match s.cu.chimeOn generator with
    | none => s
    | some c =>
      match c.playback with
      | .note rest due => if reached s.clock due then s.noteEnded generator c rest else s
      | _ => s) s

/-- CHIME_REPEAT_GAP_END (R168). -/
def execChimeRepeatGapEnd (generator : Fin 2) (s : State) : Out :=
  event (fun s =>
    match s.cu.chimeOn generator with
    | none => s
    | some c =>
      match c.playback with
      | .gap due => if reached s.clock due then s.playChime generator c else s
      | _ => s) s

/-- MESSAGE_REPEAT_GAP_END (R169). -/
def execMessageRepeatGapEnd (channel : Fin 2) (s : State) : Out :=
  event (fun s =>
    match s.cu.messageOn channel with
    | none => s
    | some c =>
      match c.playback, c.kind with
      | .gap due, .message number => if reached s.clock due then s.playCallMessage channel number c else s
      | _, _ => s) s

/-- R170 and R172: a dip of a flick has ended. The stage is read at this moment: a dip that outlasts an evacuation
already reset leaves its call playing on. DESIGN CHOICE, unsafe: notes/assumptions/20.md. -/
def State.dipEnded (c : Call) (s : State) : State :=
  let c1 := { c with playback := .back (s.clock + Config.dipTicks) }
  let s1 := (s.dipNotices c.id false).setCall c1
  if s.al.stage.clearing then (s1.abandon c1 .evacuation).scan else s1

/-- FLICK_DIP_END (R170). -/
def execFlickDipEnd (id : Byte) (s : State) : Out :=
  event (fun s =>
    match s.cu.find id with
    | none => s
    | some c =>
      match c.playback with
      | .dip due => if reached s.clock due then s.dipEnded c else s
      | _ => s) s

/-- R170 and R172: a repeat of a flick is done. In EVACUATE and SILENCED the call is given up, after its last repeat
too. DESIGN CHOICE, unsafe: notes/assumptions/20.md. -/
def State.repeatEnded (c : Call) (s : State) : State :=
  let c1 := { c with done := c.done + 1 }
  if s.al.stage.clearing then (s.abandon c1 .evacuation).scan
  else if c.repeats ≤ c.done + 1 then (s.endCall c1 .done none).scan
  else s.startDip c1

/-- FLICK_REPEAT_END (R170). -/
def execFlickRepeatEnd (id : Byte) (s : State) : Out :=
  event (fun s =>
    match s.cu.find id with
    | none => s
    | some c =>
      match c.playback with
      | .back due => if reached s.clock due then s.repeatEnded c else s
      | _ => s) s

/-! ## Scripts -/

/-- R178: an unstarted record of origin SCRIPT. -/
def Call.unstartedScript (c : Call) : Bool :=
  (match c.origin with | .script _ => true | .direct => false) && decide (c.state ≠ .playing)

/-- R178: the unstarted script records are cancelled, in queue order. -/
def State.cancelScripts (why : CallReason) (s : State) : State :=
  ((s.cu.queue.filter Call.unstartedScript).foldl (fun s c => s.endCall c .cancelled (some why)) s).scan

/-- R177: a record that an extension of an interval moves. -/
def Call.moves (interval : Nat) (c : Call) : Bool :=
  decide (c.origin = .script interval) && decide (c.state ≠ .playing)

/-- R177: a record after it is moved; a WAITING one whose new due time is not reached is QUEUED again. -/
def Call.moved (c : Call) (now shift : Clock) : Call :=
  { c with due := c.due + shift,
           state := if c.state = .waiting && !reached now (c.due + shift) then .queued else c.state }

/-- R177: the unstarted records of an interval's script are moved by a shift and placed anew. -/
def State.shiftScripts (interval : Nat) (shift : Clock) (s : State) : State :=
  let stay := s.cu.queue.filter fun c => !c.moves interval
  let go := (s.cu.queue.filter (Call.moves interval)).map fun c => c.moved s.clock shift
  { s with cu := { s.cu with queue := go.foldl (fun q c => insertCall s.clock c q) stay } }

/-- R176: the result of placing a script. -/
inductive ScriptResult where
  | nothing
  | placed (steps : Nat)
  | queueFull
  | access (f : AccessFault)
  deriving DecidableEq, Repr

/-- R176: the due time of a step. -/
def ScriptStep.dueAt (x : ScriptStep) (now stop : Clock) : Clock :=
  if reached now (stop - BitVec.ofNat 32 (x.offset * 100)) then now else stop - BitVec.ofNat 32 (x.offset * 100)

/-- R17: the zone selectors of a script with their step numbers and positions. -/
def scriptInner (steps : List ScriptStep) : List (Selector × Nat × Nat) :=
  steps.zipIdx.flatMap fun x => x.1.zones.zipIdx.map fun z => (z.1, x.2 + 1, z.2 + 1)

/-- R176: one step is entered. -/
def State.placeStep (station : Station) (interval : Nat) (stop : Clock) (s : State) (x : ScriptStep) : State :=
  { s with cu := (s.cu.enter s.clock (Call.fresh station (.script interval) (x.dueAt s.clock stop) x.kind
      (x.zones.map fun z => z.index.val) x.repeats)).1 }

/-- R176: a script is placed whole or not at all. -/
def State.placeScript (station : Station) (interval : Nat) (stop : Clock) (steps : List ScriptStep) (s : State) :
    State × ScriptResult :=
  if Config.queueRecords < s.cu.queue.length + steps.length then (s, .queueFull)
  else match s.tab.innerFault station (s.cpl station) (.house .zone) (scriptInner steps) with
    | some f => (s, .access f)
    | none =>
      (steps.foldl (State.placeStep station interval stop) (s.markAll station ((scriptInner steps).map Prod.fst)),
        .placed steps.length)

/-! ## Outputs -/

/-- R157: what a circuit carries. -/
inductive Carried where
  | nothing
  | programme
  | page
  | generator (n : Fin 2)
  | channel (n : Fin 2)
  deriving DecidableEq, Repr

/-- R157: what a call puts on its circuits. -/
def Call.carries (c : Call) : Carried :=
  match c.source, c.kind with
  | some i, .chime _ => .generator i
  | some i, .message _ => .channel i
  | _, _ => .nothing

/-- R157: what a circuit carries, the audio inhibit aside. -/
def Calls.carried (u : Calls) (n : Fin 16) : Carried :=
  match u.circuits[n].holder with
  | none => if u.circuits[n].programme then .programme else .nothing
  | some .evacuation => .channel 0
  | some .staffCall => .channel 1
  | some .page => .page
  | some (.call id) => ((u.find id).map Call.carries).getD .nothing

/-- R156 and R157: what a circuit carries; nothing in reset and while the audio group is inhibited. -/
def State.circuitCarries (s : State) (n : Fin 16) : Carried :=
  if s.inReset || s.im.inhibit.audio then .nothing else s.cu.carried n

end Sys2Proof.Machine
end

