-- ==== Sys2Proof/Machine/Sequencer.lean ====
section
/-! DEFINITION. The Show Sequencer: the show clock (R25 to R27), the phase requests (R28 to R37), the performance
record and the iron check (R38 to R42). -/

namespace Sys2Proof.Machine

/-! ## The show clock -/

/-- R27: a due time that stands is moved. -/
def moveDue (shift : Clock) (d : Option Clock) : Option Clock := d.map (· + shift)

/-- R27 and R70: the due times of the Curtain Controller, and with them the sample grid, which keeps its rate. -/
def Curtain.moveDues (c : Curtain) (d : Clock) : Curtain :=
  { c with permit := moveDue d c.permit, heldExpiry := moveDue d c.heldExpiry,
           move := c.move.map fun m => { m with nextSample := m.nextSample + d } }

/-- R27: a line record's isolation end. -/
def LineRec.moveDues (r : LineRec) (d : Clock) : LineRec :=
  { r with isolation := r.isolation.map fun x => { x with stop := moveDue d x.stop } }

/-- R27: the due times of the Alarm Unit. -/
def Alarm.moveDues (a : Alarm) (d : Clock) : Alarm :=
  { a with ackDue := moveDue d a.ackDue, invDue := moveDue d a.invDue, knockEnd := moveDue d a.knockEnd,
           lines := Vector.ofFn fun n : Fin 32 => a.lines[n].moveDues d }

/-- R27: the due times of the Call Unit; its queue is empty when the clock is set. -/
def Calls.moveDues (u : Calls) (d : Clock) : Calls :=
  { u with page := u.page.map fun p => { p with limit := p.limit + d }
           staff := u.staff.map fun x => { x with repeatDue := moveDue d x.repeatDue }
           channels := Vector.ofFn fun i : Fin 2 => { u.channels[i] with limit := moveDue d u.channels[i].limit } }

/-- R27: a paired record's expiry. -/
def Paired.moveDue (p : Paired) (d : Clock) : Paired := { p with expiry := p.expiry + d }

/-- R27: the clock takes a value, and every due time standing in any block moves with it.
DEDUCED, unsafe: notes/assumptions/26.md. -/
def State.setClock (value : Clock) (s : State) : State :=
  let d := value - s.clock
  { s with
    clock := value
    paired := Vector.ofFn fun i : Fin 16 => s.paired[i].map fun p => p.moveDue d
    perf := { s.perf with intervalEnd := moveDue d s.perf.intervalEnd }
    cc := s.cc.moveDues d
    al := s.al.moveDues d
    os := { s.os with sup := { s.os.sup with deadline := moveDue d s.os.sup.deadline } }
    cu := s.cu.moveDues d
    im := { s.im with work := s.im.work.map fun w => { w with due := w.due + d }, loadDue := moveDue d s.im.loadDue } }

/-- R27: SET_CLOCK. -/
def askSetClock (h : Hdr) (value : Clock) : Handler :=
  withLevel h.station 1 <|
    need (fun s => s.perf.phase = .dark) .ePhase <|
    need (fun s => s.cu.queue.isEmpty) .eFull <|
    need (fun s => !s.os.sup.enabled) .eLocked fun s =>
      (s.setClock value, .ok (clockBytes s.clock ++ clockBytes value))

/-- SET_CLOCK (R27). -/
def execSetClock (h : Hdr) (value : Clock) (s : State) : Out :=
  arrive (.setClock h value) h (fun _ => askSetClock h value) s

/-! ## Phase requests -/

/-- R29: a PHASE report of the phase as it stands. -/
def State.phaseReport (previous : Phase) (cause : PhaseCause) (station : Station) (s : State) : State :=
  s.addReport (.phase previous s.perf.phase cause station s.perf.act s.perf.interval s.perf.intervalEnd)

/-- R28: the phase is set; CU is told (R157). -/
def State.enterPhase (p : Phase) (s : State) : State :=
  { s with perf := { s.perf with phase := p } }.notify .phaseChangeNotice

/-- R29: the phase, the act number and the interval number. -/
def Performance.place (p : Performance) : List Byte := be1 p.phase.ctorIdx ++ be1 p.act ++ be1 p.interval

/-- R29: the reply OK of a phase request, from the state after it. -/
def phaseReply (s : State) : State × Answer := (s, .ok s.perf.place)

/-- R29: steps 1 and 2 of a phase request: commissioning is closed, and the phase is one of a list. -/
def inPhase (allowed : List Phase) (k : Handler) : Handler :=
  need (fun s => s.im.comm = .closed) .eCommission <|
    need (fun s => allowed.contains s.perf.phase) .ePhase k

/-- R30: what a PREPARE that is taken does. -/
def State.prepare (station : Station) (s : State) : State :=
  ({ s with tab := s.tab.clearUsed, perf := .cleared .prepare }.enterPhase .prepare).phaseReport s.perf.phase
    (.request 0x11) station

/-- R30: PREPARE. -/
def askPrepare (h : Hdr) : Handler :=
  withLevel h.station 1 <| inPhase [.dark] fun s => phaseReply (s.prepare h.station)

/-- PREPARE (R30). -/
def execPrepare (h : Hdr) (s : State) : Out := arrive (.prepare h) h (fun _ => askPrepare h) s

/-- R205: some group is inhibited. -/
def Inhibits.any (x : Inhibits) : Bool := x.drive || x.lighting || x.audio || x.sounders

/-- R31: a line stands under an indefinite isolation. -/
def Alarm.indefinite (a : Alarm) : Bool :=
  (List.finRange 32).any fun n => match a.lines[n].isolation with
    | some x => decide (x.kind = .indefinite)
    | none => false

/-- R31: what an OPEN_HOUSE that is taken does. -/
def State.openHouse (station : Station) (s : State) : State :=
  ({ s with perf := { s.perf with houseOpen := some s.clock } }.enterPhase .houseOpen).phaseReport s.perf.phase
    (.request 0x12) station

/-- R31: OPEN_HOUSE. -/
def askOpenHouse (h : Hdr) : Handler :=
  withLevel h.station 1 <| inPhase [.prepare] <|
    need (fun s => s.al.stage = .quiet) .eStage <|
    need (fun s => !s.im.inhibit.any) .eInhibit <|
    need (fun s => !s.al.indefinite) .eStage fun s => phaseReply (s.openHouse h.station)

/-- OPEN_HOUSE (R31). -/
def execOpenHouse (h : Hdr) (s : State) : Out := arrive (.openHouse h) h (fun _ => askOpenHouse h) s

/-- R34: the interval end is removed and its watch disarmed. -/
def State.dropInterval (s : State) : State := { s with watch := false, perf := { s.perf with intervalEnd := none } }

/-- R32: what a BEGIN_ACT that is taken does. -/
def State.beginAct (station : Station) (s : State) : State :=
  let s1 := { s with perf := { s.perf with act := s.perf.act + 1 } }.dropInterval.cancelScripts .beginAct
  (s1.enterPhase .act).phaseReport s.perf.phase (.request 0x13) station

/-- R32: BEGIN_ACT. -/
def askBeginAct (h : Hdr) : Handler :=
  withLevel h.station 1 <| inPhase [.houseOpen, .interval] <|
    need (fun s => s.al.stage = .quiet) .eStage <|
    need (fun s => s.cc.state = .out) .eMotion <|
    need (fun s => s.perf.act < 9) .eFull fun s => phaseReply (s.beginAct h.station)

/-- BEGIN_ACT (R32). -/
def execBeginAct (h : Hdr) (s : State) : Out := arrive (.beginAct h) h (fun _ => askBeginAct h) s

/-- R33: steps 1 to 4 of a BEGIN_INTERVAL. -/
def State.startInterval (stop : Clock) (s : State) : State :=
  { s with watch := true
           perf := { s.perf with interval := s.perf.interval + 1, intervalEnd := some stop } }.enterPhase .interval

/-- The SCRIPT body of a station's local entry. -/
def Tables.scriptAt (t : Tables) (st : Station) (i : Nat) : List ScriptStep :=
  match (t.local? st i).bind Entry.body with
  | some (.script steps) => steps
  | _ => []

/-- R33: step 5 of a BEGIN_INTERVAL: a named script is handed to the Call Unit. -/
def State.handScript (station : Station) (script : Option Selector) (stop : Clock) (s : State) :
    State × ScriptResult :=
  match script with
  | none => (s, .nothing)
  | some x => s.placeScript station s.perf.interval stop (s.tab.scriptAt station x.index.val)

/-- R33: the result of the script in BEGIN_INTERVAL's reply. The step count, of one byte, and the access fault record
stand in their own case alone, with no presence byte. DESIGN CHOICE, unsafe: notes/assumptions/17.md. -/
def ScriptResult.bytes : ScriptResult → List Byte
  | .nothing => be1 0
  | .placed n => be1 1 ++ be1 n
  | .queueFull => be1 2
  | .access f => be1 3 ++ f.bytes

/-- R33: the status that goes with the result of the script. -/
def ScriptResult.status : ScriptResult → Status
  | .nothing => .ok
  | .placed _ => .ok
  | .queueFull => .wPartial
  | .access _ => .wPartial

/-- R29, R33 and R187: the status and the data of BEGIN_INTERVAL's reply: the phase, the act and the interval number,
then the result, then the interval end. DESIGN CHOICE, unsafe: notes/assumptions/17.md. -/
def intervalReply (s : State) (stop : Clock) (r : ScriptResult) : Answer :=
  { status := r.status, data := s.perf.place ++ r.bytes ++ clockBytes stop }

/-- R33: BEGIN_INTERVAL once its conditions hold. -/
def takeInterval (h : Hdr) (minutes : Byte) (script : Option Selector) : Handler := fun s =>
  let stop := s.clock + BitVec.ofNat 32 (clamp 1 60 minutes.toNat * 6000)
  let out := (s.startInterval stop).handScript h.station script stop
  let s1 := out.1.phaseReport s.perf.phase (.request 0x14) h.station
  (s1, intervalReply s1 stop out.2)

/-- R33: the conditions of BEGIN_INTERVAL. -/
def testInterval (h : Hdr) (minutes : Byte) (script : Option Selector) : Handler :=
  inPhase [.act] <|
    need (fun s => s.al.stage = .quiet) .eStage <|
    need (fun s => s.perf.interval < 8) .eFull <| takeInterval h minutes script

/-- R13 and R33: BEGIN_INTERVAL: the fixed level first, then the optional script selector. -/
def askBeginInterval (h : Hdr) (minutes : Byte) (script : Half) : Handler :=
  match decodeSelector script with
  | none => refused .eParam
  | some x =>
    withLevel h.station 1 fun s =>
      if x.isNull then testInterval h minutes none s
      else match s.tab.firstFault h.station (s.cpl h.station) (.inLocal .script) [x] with
        | some f => (s, .deny f)
        | none => testInterval h minutes (some x) (s.markUsed h.station x)

/-- BEGIN_INTERVAL (R33). -/
def execBeginInterval (h : Hdr) (minutes : Byte) (script : Half) (s : State) : Out :=
  arrive (.beginInterval h minutes script) h (fun _ => askBeginInterval h minutes script) s

/-- R35: the interval end after an extension: no more than 24 hours ahead of now.
DEDUCED, unsafe: notes/assumptions/28.md. -/
def extendedEnd (now stop : Clock) (minutes : Nat) : Clock :=
  let e := stop + BitVec.ofNat 32 (clamp 1 30 minutes * 6000)
  if !reached now e && decide (Config.extendLimit < (e - now).toNat) then now + BitVec.ofNat 32 Config.extendLimit else e

/-- R35: what an EXTEND_INTERVAL that is taken does. -/
def State.extendInterval (stop shift : Clock) (s : State) : State :=
  { s with watch := true, perf := { s.perf with intervalEnd := some stop } }.shiftScripts s.perf.interval shift

/-- R35: EXTEND_INTERVAL. DESIGN CHOICE, unsafe: notes/assumptions/17.md. -/
def askExtendInterval (h : Hdr) (minutes : Byte) : Handler :=
  withLevel h.station 1 <| inPhase [.interval] fun s =>
    let old := s.perf.intervalEnd.getD s.clock
    let stop := extendedEnd s.clock old minutes.toNat
    let s1 := s.extendInterval stop (stop - old)
    (s1, .ok (s1.perf.place ++ clockBytes stop ++ clockBytes (stop - old)))

/-- EXTEND_INTERVAL (R35). -/
def execExtendInterval (h : Hdr) (minutes : Byte) (s : State) : Out :=
  arrive (.extendInterval h minutes) h (fun _ => askExtendInterval h minutes) s

/-- R36: what a CLOSE_HOUSE that is taken does. -/
def State.closeHouse (station : Station) (s : State) : State :=
  (((s.dropInterval.cancelScripts .closeHouse).closeLines).enterPhase .showDown).phaseReport s.perf.phase
    (.request 0x16) station

/-- R36: CLOSE_HOUSE. -/
def askCloseHouse (h : Hdr) : Handler :=
  withLevel h.station 1 <| inPhase [.houseOpen, .act, .interval] fun s => phaseReply (s.closeHouse h.station)

/-- CLOSE_HOUSE (R36). -/
def execCloseHouse (h : Hdr) (s : State) : Out := arrive (.closeHouse h) h (fun _ => askCloseHouse h) s

/-- R42: the check-missed mark. -/
def Performance.missed (p : Performance) : Bool := decide (p.iron ≠ .done)

/-- R37: what a GO_DARK that is taken does. -/
def State.goDark (station : Station) (s : State) : State :=
  let s1 := s.addReport (.summary s.perf s.perf.missed)
  ({ s1 with perf := .cleared .dark }.enterPhase .dark).phaseReport s.perf.phase (.request 0x17) station

/-- R37: GO_DARK. -/
def askGoDark (h : Hdr) : Handler :=
  withLevel h.station 1 <| inPhase [.showDown, .prepare] <|
    need (fun s => s.al.stage = .quiet) .eStage fun s => phaseReply (s.goDark h.station)

/-- GO_DARK (R37). -/
def execGoDark (h : Hdr) (s : State) : Out := arrive (.goDark h) h (fun _ => askGoDark h) s

/-! ## Events -/

/-- INTERVAL_DUE (R34): the armed interval end is reached. -/
def execIntervalDue (s : State) : Out :=
  event (fun s =>
    if s.watch && dueReached s.clock s.perf.intervalEnd then
      { s with watch := false }.phaseReport s.perf.phase .intervalDue 0
    else s) s

/-- R40: the audience is there to see the iron: HOUSE_OPEN or INTERVAL. -/
def Phase.proves : Phase → Bool
  | .houseOpen => true
  | .interval => true
  | _ => false

/-- R40: a notice that lowers the check. -/
def provesLowering (p : Phase) (k : MoveKind) (o : MoveOutcome) (held : Bool) (duration tLimit : Nat) : Bool :=
  decide (k = .testLower) && decide (o = .complete) && !held && decide (duration ≤ tLimit) && p.proves

/-- R40 and R41: the iron check at a movement notice. -/
def Performance.takeMovement (p : Performance) (k : MoveKind) (o : MoveOutcome) (held : Bool) (duration tLimit : Nat) :
    Performance :=
  match p.iron with
  | .none =>
    if provesLowering p.phase k o held duration tLimit then
      { p with iron := .lowered, ironDuration := some duration }
    else p
  | .lowered =>
    if decide (k = .raise) && decide (o = .complete) && p.phase.proves then { p with iron := .done }
    else { p with iron := .none, ironDuration := none }
  | .done => p

/-- MOVEMENT_NOTICE (R40). -/
def execMovementNotice (kind : MoveKind) (outcome : MoveOutcome) (held : Bool) (duration tLimit : Nat) (s : State) :
    Out :=
  noticed (.movementNotice kind outcome held duration tLimit)
    (fun s => { s with perf := s.perf.takeMovement kind outcome held duration tLimit }) s

/-- ALERT_NOTICE (R39). -/
def execAlertNotice (s : State) : Out :=
  noticed .alertNotice (fun s => { s with perf := { s.perf with alerts := countUp 65535 s.perf.alerts } }) s

/-- EVACUATED_NOTICE (R39). -/
def execEvacuatedNotice (s : State) : Out :=
  noticed .evacuatedNotice (fun s => { s with perf := { s.perf with evacuated := true } }) s

/-- DESK_LOSS_NOTICE (R39). -/
def execDeskLossNotice (s : State) : Out :=
  noticed .deskLossNotice (fun s => { s with perf := { s.perf with deskLosses := countUp 65535 s.perf.deskLosses } }) s

/-- CALL_ABANDONED_NOTICE (R39). -/
def execCallAbandonedNotice (s : State) : Out :=
  noticed .callAbandonedNotice
    (fun s => { s with perf := { s.perf with abandoned := countUp 65535 s.perf.abandoned } }) s

end Sys2Proof.Machine
end

