-- ==== Sys2Proof/Machine/Authority.lean ====
section
/-! DEFINITION. The Authority Unit's own requests: gates (R19, R20), paired records (R21, R22), reading the tables
(R23, R24), and STATUS and DESCRIBE (R192, R193). -/

namespace Sys2Proof.Machine

/-! ## STATUS and DESCRIBE -/

/-- R192: the Show Sequencer's and the Alarm Unit's fields of the snapshot. -/
def State.statusHead (s : State) : List Byte :=
  clockBytes s.clock ++ s.perf.place ++ optional 4 clockBytes s.perf.intervalEnd ++
    be1 s.al.stage.ctorIdx ++ be1 s.al.list.length ++ optional 4 clockBytes s.al.knockEnd

/-- R192: the Curtain Controller's fields of the snapshot. -/
def State.statusCurtain (s : State) : List Byte :=
  be1 s.cc.state.ctorIdx ++ be2 s.cc.position ++
    optional 1 (fun r : FaultReason => be1 r.code) s.cc.reason ++
    flagByte s.cc.lock.isSome ++ optional 1 (fun c : LockCause => be1 c.ctorIdx) s.cc.lock ++
    flagByte s.cc.permit.isSome ++ optional 4 clockBytes s.cc.permit ++
    optional 1 (fun m : Movement => be1 m.record.kind.ctorIdx) s.cc.move

/-- R192: the Override Selector's, Image and Maintenance's and the Desk Link's fields of the snapshot. -/
def State.statusTail (s : State) : List Byte :=
  s.supBytes ++ s.im.inhibit.bytes ++ statusByte s.im.valid ++ be1 s.im.comm.ctorIdx ++ flagByte s.im.starting ++
    be1 s.dl.reports.length ++ flagByte s.dl.overrun ++ be1 s.dl.overflow ++ be1 s.im.lr.val

/-- R192: the snapshot, 54 bytes. -/
def State.statusBytes (s : State) : List Byte := s.statusHead ++ s.statusCurtain ++ s.statusTail

/-- R192: STATUS. -/
def askStatus (h : Hdr) : Handler := withStation h.station fun s => (s, .ok s.statusBytes)

/-- STATUS (R192). -/
def execStatus (h : Hdr) (s : State) : Out := arrive (.status h) h (fun _ => askStatus h) s

/-- R193: the data of DESCRIBE. -/
def describeBytes : List Byte :=
  be2 Config.partCode ++ be1 Config.revision ++ counted (fun x : Nat × Nat => be1 x.1 ++ be2 x.2) Config.capacities

/-- R193: DESCRIBE. -/
def askDescribe (h : Hdr) : Handler := withStation h.station fun s => (s, .ok describeBytes)

/-- DESCRIBE (R193). -/
def execDescribe (h : Hdr) (s : State) : Out := arrive (.describe h) h (fun _ => askDescribe h) s

/-! ## Gates -/

/-- R20: the fault record of a gate's failed object. -/
def gateFault (k : CheckKind) (index : Nat) : AccessFault :=
  { kind := k, isLocal := false, index, fromRecord := true, item := 1, sub := 0 }

/-- R20: the check of a gate's zone at the target level. -/
def Tables.gateZoneFault (t : Tables) (target : Level) (zone : Nat) : Option CheckKind :=
  if zone = 0 then some .null
  else if t.limit ≤ zone then some .limit
  else match t.house? zone with
    | none => some .empty
    | some e => if e.type ≠ .zone then some .type else if e.dpl.val < target.val then some .level else none

/-- R20: the house's CURTAIN entry does not admit the target level; with no entry the check is passed over. -/
def Tables.gateCurtainFault (t : Tables) (target : Level) : Option Nat :=
  match t.curtainEntry with
  | none => none
  | some (i, _) => if ((t.house? i).map fun e => decide (e.dpl.val < target.val)).getD false then some i else none

/-- R18: the used flag of the house's CURTAIN entry, where there is one. -/
def State.markCurtain (s : State) : State :=
  match s.tab.curtainEntry with
  | none => s
  | some (i, _) => s.markHouse i

/-- R20: MANUAL_CALL through a gate. -/
def gateManualCall (station : Station) (gate : Nat) (target : Level) (zone : Nat) : Handler := fun s =>
  match s.tab.gateZoneFault target zone with
  | some k => (s, .deny (gateFault k zone))
  | none => takeManualCall station gate zone ((s.markHouse gate).markHouse zone)

/-- R20: MANUAL_DROP through a gate. -/
def gateManualDrop (gate : Nat) (target : Level) : Handler := fun s =>
  match s.tab.gateCurtainFault target with
  | some i => (s, .deny (gateFault .level i))
  | none => State.manualDrop (s.markHouse gate).markCurtain

/-- R20: ALARM_ACK through a gate. -/
def gateAlarmAck (station : Station) (gate : Nat) (target : Level) : Handler := fun s =>
  if target.val ≤ 1 then takeAcknowledge station (some gate) (s.markHouse gate)
  else (s, .deny (gateFault .level 0))

/-- R20: the action of a gate, at its target level. -/
def gateAction (station : Station) (gate : Nat) (g : GateBody) : Handler :=
  match g.action with
  | .manualCall => gateManualCall station gate g.target (g.zone.getD 0)
  | .manualDrop => gateManualDrop gate g.target
  | .alarmAck => gateAlarmAck station gate g.target

/-- The GATE body of the present entry at a house index. -/
def Tables.gateAt (t : Tables) (i : Nat) : Option GateBody :=
  match t.bodyAt i with
  | some (.gate g) => some g
  | _ => none

/-- R19: USE_GATE: the gate's own check, then its action; the used flags follow the action's check. -/
def askUseGate (h : Hdr) (gate : Half) : Handler :=
  match decodeSelector gate with
  | none => refused .eParam
  | some x => withStation h.station fun s =>
    match s.tab.firstFault h.station (s.cpl h.station) (.house .gate) [x] with
    | some f => (s, .deny f)
    | none =>
      match s.tab.gateAt x.index.val with
      | none => (s, .ok [])
      | some g => gateAction h.station x.index.val g s

/-- USE_GATE (R19). -/
def execUseGate (h : Hdr) (gate : Half) (s : State) : Out := arrive (.useGate h gate) h (fun _ => askUseGate h gate) s

/-! ## Paired records -/

/-- R21: the action of RESET_ENABLE, with the level it needs. -/
def pairedAction (action : Byte) : Option (PairedAction × Nat) :=
  if action = 0 then some (.alarm, 1) else if action = 1 then some (.restart, 0) else none

/-- R21: a paired record is stored. -/
def State.setPaired (st : Station) (p : Option Paired) (s : State) : State := { s with paired := s.paired.set st p }

/-- R21: RESET_ENABLE. -/
def askResetEnable (h : Hdr) (action : Byte) : Handler :=
  match pairedAction action with
  | none => refused .eParam
  | some (a, most) => withLevel h.station most fun s =>
    (s.setPaired h.station (some { action := a, expiry := s.clock + Config.pairedTicks }), .ok [])

/-- RESET_ENABLE (R21). -/
def execResetEnable (h : Hdr) (action : Byte) (s : State) : Out :=
  arrive (.resetEnable h action) h (fun _ => askResetEnable h action) s

/-- PAIRED_EXPIRY (R22). -/
def execPairedExpiry (station : Station) (s : State) : Out :=
  event (fun s =>
    match s.paired[station] with
    | none => s
    | some p => if reached s.clock p.expiry then s.setPaired station none else s) s

/-! ## Reading the tables -/

/-- R23: an entry as READ_OBJECT gives it: its header, then its body. -/
def Entry.bytes (e : Entry) : List Byte := e.header ++ (match e.body with | some b => b.bytes | none => [])

/-- R23: READ_OBJECT sets no used flag. -/
def askReadObject (h : Hdr) (object : Half) : Handler :=
  match decodeSelector object with
  | none => refused .eParam
  | some x => withStation h.station fun s =>
    match s.tab.firstFault h.station (s.cpl h.station) .any [x] with
    | some f => (s, .deny f)
    | none => (s, .ok (((s.tab.entry? h.station x).map Entry.bytes).getD []))

/-- READ_OBJECT (R23). -/
def execReadObject (h : Hdr) (object : Half) (s : State) : Out :=
  arrive (.readObject h object) h (fun _ => askReadObject h object) s

/-- R24: a paired record: absent, or the action and the time left in tenths. -/
def Paired.bytes (p : Paired) (now : Clock) : List Byte := be1 p.action.ctorIdx ++ be2 (tenthsLeft now p.expiry)

/-- R24: the data of READ_STATION. DESIGN CHOICE, unsafe: notes/assumptions/10.md. -/
def State.stationBytes (s : State) (n : Station) : List Byte :=
  be1 n.val ++ flagByte (s.stationPresent n) ++ be1 (s.cpl n).val ++
    optional 3 (fun p : Paired => p.bytes s.clock) s.paired[n] ++
    (List.finRange 16).flatMap fun i : Fin 16 => s.tab.locals[n][i].header

/-- R24: READ_STATION. -/
def askReadStation (h : Hdr) (number : Byte) : Handler :=
  if number.toNat ≤ 15 then
    withStation h.station fun s =>
      if number.toNat = h.station.val || (s.cpl h.station).val ≤ 1 then
        (s, .ok (s.stationBytes (Fin.ofNat 16 number.toNat)))
      else (s, .deny (.fixed .level))
  else refused .eParam

/-- READ_STATION (R24). -/
def execReadStation (h : Hdr) (number : Byte) (s : State) : Out :=
  arrive (.readStation h number) h (fun _ => askReadStation h number) s

end Sys2Proof.Machine
end

