-- ==== Sys2Proof/Machine/Lighting.lean ====
section
/-! DEFINITION. The Lighting Engine: fades, presets and pending cues, the PWM output stage (R124 to R141). -/

namespace Sys2Proof.Machine

/-! ## Fades -/

/-- R127: the length of a fade in fade ticks, from its fade time in tenths. -/
def fadeLength (tenths : Nat) : Nat := if tenths = 0 then 1 else tenths * 5

/-- R127: the primary level after a fade's next tick. -/
def Fade.level (f : Fade) : Nat := easeLevel f.start f.target (f.k + 1) f.n

/-- R126: a fade after its next tick; it is removed when k reaches n. -/
def Fade.next (f : Fade) : Option Fade := if f.n ≤ f.k + 1 then none else some { f with k := f.k + 1 }

/-- R126: step 1 of a fade tick for one channel. -/
def Channel.fadeTick (c : Channel) : Channel :=
  match c.fade with
  | none => c
  | some f => { c with primary := f.level, fade := f.next }

/-- R128: a fade started on a channel record replaces the one that stands. -/
def Channel.startFade (c : Channel) (target n : Nat) (owner : Station) : Channel :=
  { c with fade := some { start := c.primary, target, n, k := 0, owner } }

/-- R128: a fade started on the record of an output. -/
def State.startFade (output target n : Nat) (owner : Station) (s : State) : State :=
  if h : output < 48 then
    { s with le := { s.le with
        channels := s.le.channels.set output (s.le.channels[output].startFade target n owner) } }
  else s

/-- The primary level of an output's record. -/
def State.primaryAt (s : State) (output : Nat) : Nat :=
  if h : output < 48 then s.le.channels[output].primary else 0

/-- The CHANNEL body of the present entry at a house index. -/
def Tables.channelAt (t : Tables) (i : Nat) : Option ChannelBody :=
  match t.bodyAt i with
  | some (.channel c) => some c
  | _ => none

/-- R129: SET_LEVEL after the access check. -/
def askSetLevel (h : Hdr) (channel level fade : Half) : Handler :=
  withObject h.station channel (.house .channel) fun x s =>
    match s.tab.channelAt x.index.val with
    | none => (s, .ok [])
    | some b =>
      let target := min 4095 level.toNat
      let n := fadeLength (min 6000 fade.toNat)
      (s.startFade b.output target n h.station,
        .ok (be1 b.output ++ be2 (s.primaryAt b.output) ++ be2 target ++ be2 n))

/-- SET_LEVEL (R129). -/
def execSetLevel (h : Hdr) (channel level fade : Half) (s : State) : Out :=
  arrive (.setLevel h channel level fade) h (fun _ => askSetLevel h channel level fade) s

/-! ## Cues -/

/-- The PRESET body of a station's local entry. -/
def Tables.presetAt (t : Tables) (st : Station) (i : Nat) : Option PresetBody :=
  match (t.local? st i).bind Entry.body with
  | some (.preset p) => some p
  | _ => none

/-- R17: the channel selectors of a preset with their pair numbers. -/
def PresetBody.inner (p : PresetBody) : List (Selector × Nat × Nat) :=
  (p.pairs.zipIdx 1).map fun x => (x.1.1, x.2, 0)

/-- R131: the pending cue of a station is set or removed. -/
def State.setCue (st : Station) (c : Option (Fin 16)) (s : State) : State :=
  { s with le := { s.le with cues := s.le.cues.set st c } }

/-- R131: every pending cue is removed. -/
def State.dropCues (s : State) : State := { s with le := { s.le with cues := Vector.ofFn fun _ => none } }

/-- R132: the index of a PRESET selector within the local table. -/
def Selector.localIndex (x : Selector) : Fin 16 := Fin.ofNat 16 x.index.val

/-- R132: STANDBY: the preset is checked, then every pair's channel (R17), before any used flag is set. -/
def askStandby (h : Hdr) (preset : Half) : Handler :=
  match decodeSelector preset with
  | none => refused .eParam
  | some x => withStation h.station fun s =>
    match s.tab.firstFault h.station (s.cpl h.station) (.inLocal .preset) [x] with
    | some f => (s, .deny f)
    | none =>
      match s.tab.presetAt h.station x.index.val with
      | none => (s, .ok [])
      | some p =>
        match s.tab.innerFault h.station (s.cpl h.station) (.house .channel) p.inner with
        | some f => (s, .deny f)
        | none =>
          ((((s.markUsed h.station x).markAll h.station (p.pairs.map Prod.fst)).setCue h.station (some x.localIndex)),
            .ok (be1 x.index.val ++ be1 p.pairs.length ++
              optional 1 (fun i : Fin 16 => be1 i.val) s.le.cues[h.station]))

/-- STANDBY (R132). -/
def execStandby (h : Hdr) (preset : Half) (s : State) : Out :=
  arrive (.standby h preset) h (fun _ => askStandby h preset) s

/-- The output and the target of each pair of a preset (R133). -/
def Tables.cueOutputs (t : Tables) (p : PresetBody) : List (Nat × Nat) :=
  p.pairs.filterMap fun x => (t.channelAt x.1.index.val).map fun b => (b.output, x.2)

/-- R133: the fades of a cue, in pair order. -/
def State.fireCue (outputs : List (Nat × Nat)) (n : Nat) (owner : Station) (s : State) : State :=
  outputs.foldl (fun s x => s.startFade x.1 x.2 n owner) s

/-- R133: GO. -/
def askGo (h : Hdr) : Handler :=
  withStation h.station fun s =>
    match s.le.cues[h.station] with
    | none => (s, .refuse .eNothing)
    | some i =>
      match s.tab.presetAt h.station i.val with
      | none => (s.setCue h.station none, .ok (be1 i.val ++ be1 0))
      | some p =>
        ((s.fireCue (s.tab.cueOutputs p) (fadeLength p.fade) h.station).setCue h.station none,
          .ok (be1 i.val ++ be1 ((s.tab.cueOutputs p).map Prod.fst).eraseDups.length))

/-- GO (R133). -/
def execGo (h : Hdr) (s : State) : Out := arrive (.go h) h (fun _ => askGo h) s

/-! ## The output stage -/

/-- R138: SET_CYCLE. -/
def askSetCycle (h : Hdr) (length : Byte) : Handler :=
  withLevel h.station 2 <|
    need (fun _ => 8 ≤ length.toNat && length.toNat ≤ 11) .eParam <|
    need (fun s => !s.os.sup.enabled) .eLocked fun s =>
      ({ s with le := { s.le with pendingCycle := some length.toNat } }, .ok (be1 s.le.cycle ++ [length]))

/-- SET_CYCLE (R138). -/
def execSetCycle (h : Hdr) (length : Byte) (s : State) : Out :=
  arrive (.setCycle h length) h (fun _ => askSetCycle h length) s

/-- R140: the fade of a channel as READ_CHANNEL shows it. -/
def Fade.bytes (f : Fade) : List Byte := be2 f.start ++ be2 f.target ++ be2 f.n ++ be2 f.k ++ be1 f.owner.val

/-- R140: the data of READ_CHANNEL for an output. -/
def State.channelBytes (s : State) (output : Fin 48) (governs : Bool) : List Byte :=
  be1 output.val ++ flagByte governs ++ be2 s.le.channels[output].primary ++
    optional 9 Fade.bytes s.le.channels[output].fade ++ be2 s.le.channels[output].selected ++
    be1 s.os.selections[output].source.ctorIdx ++ flagByte s.os.selections[output].transition.isSome ++
    be2 s.le.channels[output].reload ++ be2 s.le.channels[output].high ++ be1 s.le.cycle ++
    optional 1 be1 s.le.pendingCycle ++ flagByte s.im.inhibit.lighting

/-- R140: READ_CHANNEL after the access check. -/
def askReadChannel (h : Hdr) (channel : Half) : Handler :=
  withObject h.station channel (.house .channel) fun x s =>
    match s.tab.channelAt x.index.val with
    | none => (s, .ok [])
    | some b =>
      (s, .ok (s.channelBytes (Fin.ofNat 48 b.output)
        (decide ((s.tab.channelEntry b.output).map Prod.fst = some x.index.val))))

/-- READ_CHANNEL (R140). -/
def execReadChannel (h : Hdr) (channel : Half) (s : State) : Out :=
  arrive (.readChannel h channel) h (fun _ => askReadChannel h channel) s

/-- R125, R135 and R139: a dimmer control line is on. DESIGN CHOICE, unsafe: notes/assumptions/25.md. -/
def State.dimmerOn (s : State) (n : Fin 48) : Bool :=
  s.inReset || s.le.forced || s.im.inhibit.lighting || decide (s.le.counter < s.le.channels[n].high)

/-! ## Events -/

/-- R126: one channel at a fade tick: LE's step, then OS's, then the reload value. -/
def State.tickLamp (s : State) (n : Fin 48) : Lamp :=
  { s.lamp n with chan := s.le.channels[n].fadeTick }.tick s.le.cycle
    (s.os.sourceOf n (s.tab.governing n)) (s.tab.governing n)

/-- FADE_TICK (R126): every channel record worked in turn; the work on one reads no other. -/
def execFadeTick (s : State) : Out := event (fun s => s.setLamps (Vector.ofFn s.tickLamp)) s

/-- R137: step 1 of a cycle start: a pending cycle length is taken, with every reload value for it. -/
def Lighting.takeCycle (l : Lighting) : Lighting :=
  match l.pendingCycle with
  | none => l
  | some n =>
    { l with cycle := n, pendingCycle := none,
             channels := Vector.ofFn fun i : Fin 48 => { l.channels[i] with reload := reloadOf l.channels[i].selected n } }

/-- R137: step 2 of a cycle start: every high count takes its reload value. -/
def Lighting.takeHigh (l : Lighting) : Lighting :=
  { l with channels := Vector.ofFn fun i : Fin 48 => { l.channels[i] with high := l.channels[i].reload } }

/-- CYCLE_START (R137): the counter returns to 0; the lines follow their high counts from here unless the
lighting inhibit holds them on (R125, R139). -/
def execCycleStart (s : State) : Out :=
  event (fun s => { s with le := { s.le.takeCycle.takeHigh with counter := 0, forced := s.im.inhibit.lighting } }) s

end Sys2Proof.Machine
end

