-- ==== Sys2Proof/Machine/Image.lean ====
section
/-! DEFINITION. Image and Maintenance: reset and the image load (R198 to R201), commissioning (R202 to R204), group
inhibits (R205) and RESTART (R206). -/

namespace Sys2Proof.Machine

/-! ## Validation of the tables -/

/-- R202: the checks of COMMIT, in their order. -/
inductive CommitCheck where
  | count | reference | duplicate
  deriving DecidableEq, Repr

/-- R4: how many entries of a type the house may hold. -/
def EntryType.most : EntryType → Nat
  | .zone => 24
  | .line => 32
  | .channel => 48
  | .circuit => 16
  | .curtain => 1
  | .gate => 16
  | .preset => 0
  | .script => 0

/-- The present house entries' bodies with their indices, in index order. -/
def Tables.present (t : Tables) : List (Nat × Body) :=
  (List.range 128).filterMap fun i => (t.bodyAt i).map (i, ·)

/-- R202 COUNT: the entry at which a type first exceeds its limit. -/
def Tables.countFault (t : Tables) : Option Nat :=
  (t.present.find? fun x =>
    decide (x.2.type.most < (t.present.filter fun y => y.1 ≤ x.1 && decide (y.2.type = x.2.type)).length)).map Prod.fst

/-- A reference names a present house entry of a type (R6). -/
def Tables.names (t : Tables) (ty : EntryType) (i : Nat) : Bool := (t.bodyAt i).any fun b => decide (b.type = ty)

/-- R202 REFERENCE: every reference that a body holds is one that R6 follows. -/
def Tables.refersWell (t : Tables) : Body → Bool
  | .zone z => z.channels.all (t.names .channel) && z.circuits.all (t.names .circuit)
  | .line b => t.names .zone b.zone
  | .gate g => g.zone.all (t.names .zone)
  | _ => true

/-- R202 REFERENCE: the lowest house index holding a missing reference. -/
def Tables.referenceFault (t : Tables) : Option Nat :=
  (t.present.find? fun x => !t.refersWell x.2).map Prod.fst

/-- R202 DUPLICATE: two bodies of one type give the same number. -/
def Body.sameOutput : Body → Body → Bool
  | .line a, .line b => a.line == b.line
  | .channel a, .channel b => a.output == b.output
  | .circuit a, .circuit b => a.output == b.output
  | _, _ => false

/-- R202 DUPLICATE: the lowest index whose output an entry below it gives too. -/
def Tables.duplicateFault (t : Tables) : Option Nat :=
  (t.present.find? fun x => t.present.any fun y => decide (y.1 < x.1) && y.2.sameOutput x.2).map Prod.fst

/-- R202: the first check that fails, with its house index. DESIGN CHOICE, unsafe: notes/assumptions/14.md. -/
def Tables.commitFault (t : Tables) : Option (CommitCheck × Nat) :=
  (t.countFault.map (CommitCheck.count, ·)) <|> (t.referenceFault.map (CommitCheck.reference, ·)) <|>
    (t.duplicateFault.map (CommitCheck.duplicate, ·))

/-! ## Reading an image -/

/-- The outcome of reading the memory: the image's tables, or why the defaults stand (R199). -/
inductive Loaded where
  | valid (t : Tables)
  | default (r : DefaultReason)
  deriving DecidableEq, Repr

/-- R199: the length of one of sections 2 to 6, by its place in the header. -/
def sectionLength (l : List Byte) (k : Nat) : Nat := (l.getD (1 + 2 * k) 0).toNat * 256 + (l.getD (2 + 2 * k) 0).toNat

/-- R199: the lengths of sections 2 to 6. -/
def sectionLengths (l : List Byte) : List Nat := (List.range 5).map (sectionLength l)

/-- R199: an image whose header, length and CRC have passed. -/
def loadContents (l : List Byte) : Loaded :=
  match getTables l (sectionLengths l) with
  | none => .default .content
  | some t => if t.commitFault.isSome then .default .content else .valid t

/-- R199: the outcome of a read whose header has been read; `n` bytes stand before the CRC. -/
def loadBody (l : List Byte) (n : Nat) : Loaded :=
  if l.length < n + 2 then .default .noResponse
  else if sliceOf l n 2 = halfBytes (crc16 (l.take n)) then loadContents l
  else .default .crc

/-- R199: the outcome of a read of the memory; none when the memory did not answer.
DESIGN CHOICE, unsafe: notes/assumptions/13.md. -/
def loadImage : Option (List Byte) → Loaded
  | none => .default .noResponse
  | some l =>
    if l.length < 11 then .default .noResponse
    else if l.getD 0 0 ≠ 1 ∨ Config.memoryBytes < 11 + (sectionLengths l).sum + 2 then .default .header
    else loadBody l (11 + (sectionLengths l).sum)

/-- R199 and R203: the outcome of a load: with the IMG strap at 0 the memory is not read. -/
def Maint.load (m : Maint) (read : Option (List Byte)) : Loaded := if m.img then loadImage read else .default .absent

/-! ## Reset and the load -/

/-- R206: every block's state takes its reset value. The queue of commands and the levels to come at the field inputs
are the outside's, and stand. -/
def State.restart (s : State) : State := { State.reset with pending := s.pending, inputs := s.inputs }

/-- POWER_ON_RESET (R206). -/
def execPowerOnReset (s : State) : Out := .next s.restart

/-- R46, R180, R198 and R199: reset ends: the straps are latched, the inputs are read, and the load begins. -/
def State.endReset (lr : Fin 4) (img : Bool) (cc : Curtain) (s : State) : State :=
  { s with
    inReset := false
    cc := { cc with state := (limitState cc.top cc.bottom).1, reason := (limitState cc.top cc.bottom).2 }
    im := { s.im with lr, img, starting := true, loadDue := if img then some (s.clock + Config.readTicks) else none } }

/-- RESET_END (R199), with the straps and the field inputs as they then stand. -/
def execResetEnd (lr : Fin 4) (img : Bool) (position : Half) (top bottom settingClear driveReady : Bool) (s : State) :
    Out :=
  .next (if s.inReset then
    s.endReset lr img { s.cc with position := position.toNat, top, bottom, settingClear, driveReady }
  else s)

/-- R201: the number of present stations. -/
def Tables.stationCount (t : Tables) : Nat :=
  ((List.finRange 16).filter fun i : Fin 16 => t.stations[i].present).length

/-- R201: the START report, placed at the oldest end (R194). -/
def State.startReport (s : State) : State :=
  let r : Report := .start s.im.valid s.im.reason s.im.lr s.im.img s.tab.limit s.tab.stationCount
  { s with dl := s.dl.addStart s.clock r }

/-- R199: the tables are replaced in one step, every used flag clear, and AL takes the change (R89, R116). -/
def State.replaceTables (t : Tables) (s : State) : State := { s with tab := t.clearUsed }.alarmTables s.tab

/-- R125: a channel takes its governing entry's start level. -/
def Channel.takeStart (c : Channel) : Option ChannelBody → Channel
  | some b => { c with primary := b.start, fade := none }
  | none => c

/-- R125: the start levels and the pending cycle length of a loaded image. -/
def State.takeStarts (s : State) : State :=
  { s with le := { s.le with
      pendingCycle := some s.tab.params.cycle
      channels := Vector.ofFn fun n : Fin 48 => s.le.channels[n].takeStart (s.tab.governing n) } }

/-- R199: the effects of a load that ended VALID, in one step. -/
def State.takeImage (t : Tables) (s : State) : State :=
  (s.replaceTables t).takeStarts.rereadSelection.callTables

/-- R198: the image status after a load or a reload. -/
def State.setImage (valid : Bool) (r : Option DefaultReason) (s : State) : State :=
  { s with im := { s.im with valid, reason := r } }

/-- R199: starting becomes no, and START follows. -/
def State.started (s : State) : State :=
  { s with im := { s.im with starting := false, loadDue := none } }.startReport

/-- R199: the load ends. -/
def State.endLoad (x : Loaded) (s : State) : State :=
  match x with
  | .valid t => ((s.takeImage t).setImage true none).started
  | .default r => (s.setImage false (some r)).started

/-- IMAGE_LOAD_END (R199): the read has ended, with the bytes read, or none when the memory did not answer. -/
def execImageLoadEnd (read : Option (List Byte)) (s : State) : Out :=
  event (fun s => if s.im.starting then s.endLoad (s.im.load read) else s) s

/-- LOAD_TIMEOUT (R199). -/
def execLoadTimeout (s : State) : Out :=
  event (fun s =>
    if s.im.starting && s.im.img && dueReached s.clock s.im.loadDue then s.endLoad (.default .noResponse) else s) s

/-! ## Commissioning -/

/-- R202: an image write or a reload is in progress. -/
def Maint.busy (m : Maint) : Bool := decide (m.comm = .writing) || decide (m.comm = .reloading)

/-- R202: the first test of every request that IM owns. -/
def notBusy (k : Handler) : Handler := need (fun s => !s.im.busy) .eBusy k

/-- R202: the state tests of the writes, COMMIT and ABORT. -/
def inCommissioning (k : Handler) : Handler := notBusy <| need (fun s => s.im.comm = .opened) .eCommission k

/-- The commissioning state, with the work in progress. -/
def State.setComm (c : CommState) (w : Option Work) (s : State) : State := { s with im := { s.im with comm := c, work := w } }

/-- R202: COMMISSION_BEGIN. -/
def askCommissionBegin (h : Hdr) : Handler :=
  withLevel h.station 0 <| notBusy <|
    need (fun s => s.im.comm = .closed) .eCommission <|
    need (fun s => s.perf.phase = .dark) .ePhase <|
    need (fun s => s.al.stage = .quiet) .eStage <|
    need (fun s => !s.cc.state.moving) .eMotion fun s => (s.setComm .opened none, .ok [])

/-- COMMISSION_BEGIN (R202). -/
def execCommissionBegin (h : Hdr) (s : State) : Out :=
  arrive (.commissionBegin h) h (fun _ => askCommissionBegin h) s

/-- R204: a write changes the tables at once; IM tells LE and AL in it, and OS and CU by their notice. -/
def State.writeTables (t : Tables) (s : State) : State :=
  ({ s with tab := t }.dropCues.alarmTables s.tab).notify .tableChangeNotice

/-- R204: the entry that a WRITE_OBJECT carries; none when its header or body is not as R204 requires. -/
def writtenEntry (inLocal : Bool) (header : Half) (body : List Byte) : Option Entry :=
  match getEntry inLocal (halfBytes header ++ body) with
  | some (e, []) => some e
  | _ => none

/-- R204: a house entry written in place. -/
def Tables.writeHouse (t : Tables) (i : Fin 128) (e : Entry) : Tables := { t with house := t.house.set i e }

/-- R204: a local entry written in place. -/
def Tables.writeLocal (t : Tables) (st : Station) (i : Fin 16) (e : Entry) : Tables :=
  { t with locals := t.locals.set st (t.locals[st].set i e) }

/-- R204: the tables after a WRITE_OBJECT that is taken; none when it is refused with E_PARAM. -/
def Tables.writeObject (t : Tables) (target : Byte) (x : Selector) (header : Half) (body : List Byte) : Option Tables :=
  if x.isLocal then
    if 1 ≤ target.toNat ∧ target.toNat ≤ 15 then
      (writtenEntry true header body).map (t.writeLocal (Fin.ofNat 16 target.toNat) (Fin.ofNat 16 x.index.val))
    else none
  else if target = 0 then (writtenEntry false header body).map (t.writeHouse (Fin.ofNat 128 x.index.val))
  else none

/-- R15: WRITE_OBJECT's selector passes NULL and LIMIT alone; its RPL is not read. -/
def Tables.writeFault (t : Tables) (x : Selector) : Option CheckKind :=
  if !x.isLocal && x.index.val == 0 then some .null else if t.beyond x then some .limit else none

/-- R18 and R204: the used flag of the present entry that a WRITE_OBJECT names is set when its check passes, whether
or not IM then takes the request. A local selector names an entry of the target station. -/
def State.markWritten (target : Byte) (x : Selector) (s : State) : State :=
  if x.isLocal && (target = 0 || 15 < target.toNat) then s
  else if (s.tab.entry? (Fin.ofNat 16 target.toNat) x).isSome then s.markUsed (Fin.ofNat 16 target.toNat) x
  else s

/-- R204: WRITE_OBJECT once its selector is decoded. -/
def takeWriteObject (target : Byte) (x : Selector) (header : Half) (body : List Byte) : Handler :=
  inCommissioning fun s =>
    match s.tab.writeObject target x header body with
    | none => (s, .refuse .eParam)
    | some t => (s.writeTables t, .ok [])

/-- R204: WRITE_OBJECT. Its own selector is decoded before any check (R13); the selectors of its body are decoded with
the rest of the body, after the access and the state tests. DESIGN CHOICE, unsafe: notes/assumptions/15.md. -/
def askWriteObject (h : Hdr) (target : Byte) (object header : Half) (body : List Byte) : Handler :=
  match decodeSelector object with
  | none => refused .eParam
  | some x => withLevel h.station 0 fun s =>
    match s.tab.writeFault x with
    | some k => (s, .deny (.request k x))
    | none => takeWriteObject target x header body (s.markWritten target x)

/-- WRITE_OBJECT (R204). -/
def execWriteObject (h : Hdr) (target : Byte) (object header : Half) (body : List Byte) (s : State) : Out :=
  arrive (.writeObject h target object header body) h (fun _ => askWriteObject h target object header body) s

/-- R204: the station entry of a WRITE_STATION; none when it is refused with E_PARAM. -/
def writtenStation (number present cpl : Byte) : Option (Station × StationRec) :=
  if number.toNat ≤ 15 ∧ present.toNat ≤ 1 ∧ cpl.toNat ≤ 3 ∧ ¬(number = 0 ∧ present = 1) then
    some (Fin.ofNat 16 number.toNat, { present := present == 1, cpl := Fin.ofNat 4 cpl.toNat })
  else none

/-- R22 and R204: a station entry written; one made not present loses its paired record. -/
def State.writeStation (n : Station) (r : StationRec) (s : State) : State :=
  { s with paired := if r.present then s.paired else s.paired.set n none }.writeTables
    { s.tab with stations := s.tab.stations.set n r }

/-- R204: WRITE_STATION. -/
def askWriteStation (h : Hdr) (number present cpl : Byte) : Handler :=
  withLevel h.station 0 <| inCommissioning fun s =>
    match writtenStation number present cpl with
    | none => (s, .refuse .eParam)
    | some (n, r) => (s.writeStation n r, .ok [])

/-- WRITE_STATION (R204). -/
def execWriteStation (h : Hdr) (number present cpl : Byte) (s : State) : Out :=
  arrive (.writeStation h number present cpl) h (fun _ => askWriteStation h number present cpl) s

/-- R204: the house limit and the parameters of WRITE_PARAMS section 0; none when one is out of range. -/
def writtenParams (limit tAck : Byte) (tInv : Half) (message cycle : Byte) : Option (Nat × Params) :=
  if 1 ≤ limit.toNat ∧ limit.toNat ≤ 128 ∧ 10 ≤ tAck.toNat ∧ tAck.toNat ≤ 120 ∧ 60 ≤ tInv.toNat ∧ tInv.toNat ≤ 600 ∧
      1 ≤ message.toNat ∧ 8 ≤ cycle.toNat ∧ cycle.toNat ≤ 11 then
    some (limit.toNat,
      { tAck := tAck.toNat, tInv := tInv.toNat, message := message.toNat, cycle := cycle.toNat })
  else none

/-- R3 and R204: an entry at or above the house limit is not present. -/
def Entry.emptied (e : Entry) : Entry := blankEntry e.type

/-- R204: the tables after a WRITE_PARAMS section 0. -/
def Tables.writeParams (t : Tables) (limit : Nat) (p : Params) : Tables :=
  { t with limit, params := p,
           house := Vector.ofFn fun i : Fin 128 => if i.val < limit then t.house[i] else t.house[i].emptied }

/-- R204: WRITE_PARAMS section 0. -/
def askWriteParamsSection0 (h : Hdr) (limit tAck : Byte) (tInv : Half) (message cycle : Byte) : Handler :=
  withLevel h.station 0 <| inCommissioning fun s =>
    match writtenParams limit tAck tInv message cycle with
    | none => (s, .refuse .eParam)
    | some (l, p) => (s.writeTables (s.tab.writeParams l p), .ok [])

/-- WRITE_PARAMS section 0 (R204). -/
def execWriteParamsSection0 (h : Hdr) (houseLimit tAck : Byte) (tInv : Half) (message cycle : Byte) (s : State) : Out :=
  arrive (.writeParamsSection0 h houseLimit tAck tInv message cycle) h
    (fun _ => askWriteParamsSection0 h houseLimit tAck tInv message cycle) s

/-- R204: the notes of WRITE_PARAMS section 1, clamped; none when the pattern number or the count is refused. -/
def writtenNotes (pattern : Byte) (notes : List (Half × Byte)) : Option (Fin 8 × List Note) :=
  if pattern.toNat ≤ 7 ∧ 1 ≤ notes.length ∧ notes.length ≤ 4 then
    some (Fin.ofNat 8 pattern.toNat, notes.map fun x => clampNote x.1.toNat x.2.toNat)
  else none

/-- R204: WRITE_PARAMS section 1. -/
def askWriteParamsSection1 (h : Hdr) (pattern : Byte) (notes : List (Half × Byte)) : Handler :=
  withLevel h.station 0 <| inCommissioning fun s =>
    match writtenNotes pattern notes with
    | none => (s, .refuse .eParam)
    | some (p, l) => (s.writeTables { s.tab with patterns := s.tab.patterns.set p l }, .ok [])

/-- WRITE_PARAMS section 1 (R204). -/
def execWriteParamsSection1 (h : Hdr) (pattern : Byte) (notes : List (Half × Byte)) (s : State) : Out :=
  arrive (.writeParamsSection1 h pattern notes) h (fun _ => askWriteParamsSection1 h pattern notes) s

/-- R204: a commissioning write whose parameters do not match their layout: its state tests come first.
DESIGN CHOICE, unsafe: notes/assumptions/15.md. -/
def askMalformedWrite (h : Hdr) : Handler := withLevel h.station 0 (inCommissioning (refused .eParam))

/-- R202: the data of a COMMIT refused by its validation. -/
def commitBytes (c : CommitCheck) (i : Nat) : List Byte := be1 c.ctorIdx ++ be1 0 ++ be1 0 ++ be1 i

/-- R202: COMMIT: the tables are validated, and the write starts. -/
def askCommit (h : Hdr) : Handler :=
  withLevel h.station 0 <| inCommissioning <|
    need (fun s => s.im.img) .eCommission fun s =>
      match s.tab.commitFault with
      | some (c, i) => (s, { status := .eParam, data := commitBytes c i })
      | none =>
        (s.setComm .writing
          (some { station := h.station, due := s.clock + Config.writeTicks, image := encodeImage s.tab }), .ok [])

/-- COMMIT (R202). -/
def execCommit (h : Hdr) (s : State) : Out := arrive (.commit h) h (fun _ => askCommit h) s

/-- R203: an IMAGE report. -/
def State.imageReport (e : ImageEvent) (r : Option ImageReason) (station : Station) (s : State) : State :=
  s.addReport (.image e r s.im.valid s.im.comm station)

/-- R202: the write has failed. -/
def State.failWrite (r : ImageReason) (w : Work) (s : State) : State :=
  (s.setComm .opened none).imageReport .failed (some r) w.station

/-- R202: the memory holds a valid image of the live tables. DESIGN CHOICE, unsafe: notes/assumptions/14.md. -/
def State.wroteImage (w : Work) (s : State) : State :=
  (((s.setComm .closed none).setImage true none).imageReport .written none w.station).notify .tableChangeNotice

/-- R202: the write and verify end with what was read back; none when the memory stopped answering. -/
def State.endWrite (readBack : Option (List Byte)) (w : Work) (s : State) : State :=
  match readBack with
  | none => s.failWrite .noAnswer w
  | some l => if l = w.image then s.wroteImage w else s.failWrite .verify w

/-- COMMIT_WRITE_END (R202). -/
def execCommitWriteEnd (readBack : Option (List Byte)) (s : State) : Out :=
  event (fun s =>
    match s.im.comm, s.im.work with
    | .writing, some w => s.endWrite readBack w
    | _, _ => s) s

/-- COMMIT_TIMEOUT (R202). -/
def execCommitTimeout (s : State) : Out :=
  event (fun s =>
    match s.im.comm, s.im.work with
    | .writing, some w => if reached s.clock w.due then s.failWrite .noAnswer w else s
    | _, _ => s) s

/-- R203: ABORT: the reload starts. -/
def askAbort (h : Hdr) : Handler :=
  withLevel h.station 0 <| inCommissioning fun s =>
    (s.setComm .reloading (some { station := h.station, due := s.clock + Config.readTicks, image := [] }), .ok [])

/-- ABORT (R203). -/
def execAbort (h : Hdr) (s : State) : Out := arrive (.abort h) h (fun _ => askAbort h) s

/-- R1 and R203: a station that is not present has no paired record. -/
def State.dropAbsent (s : State) : State :=
  { s with paired := Vector.ofFn fun i : Fin 16 => if s.tab.stations[i].present then s.paired[i] else none }

/-- R203: the tables that a reload puts in place. Of an image it takes the tables, the patterns, T_ack, T_inv and the
message number; the stored N stays, since only the load after reset takes the image's. The safe default configuration
is used with all of its parameters. -/
def Loaded.tables (cycle : Nat) : Loaded → Tables
  | .valid t => { t with params := { t.params with cycle } }
  | .default _ => Tables.default

/-- R203: why a reload took the defaults. -/
def Loaded.reason : Loaded → Option DefaultReason
  | .valid _ => none
  | .default r => some r

/-- R203: the reload ends: the tables are replaced in one step, and the state becomes CLOSED.
DESIGN CHOICE, unsafe: notes/assumptions/13.md. -/
def State.endReload (x : Loaded) (w : Work) (s : State) : State :=
  let put := (s.replaceTables (x.tables s.tab.params.cycle)).dropAbsent.dropCues
  let s1 := (put.setImage x.reason.isNone x.reason).setComm .closed none
  (s1.imageReport .reloaded (x.reason.map ImageReason.default) w.station).notify .tableChangeNotice

/-- RELOAD_END (R203). -/
def execReloadEnd (read : Option (List Byte)) (s : State) : Out :=
  event (fun s =>
    match s.im.comm, s.im.work with
    | .reloading, some w => s.endReload (s.im.load read) w
    | _, _ => s) s

/-- RELOAD_TIMEOUT (R203). -/
def execReloadTimeout (s : State) : Out :=
  event (fun s =>
    match s.im.comm, s.im.work with
    | .reloading, some w =>
      if s.im.img && reached s.clock w.due then s.endReload (.default .noResponse) w else s
    | _, _ => s) s

/-- TABLE_CHANGE_NOTICE (R148, R179): OS and CU take a commissioning write, a commit or an image reload. -/
def execTableChangeNotice (s : State) : Out := noticed .tableChangeNotice (fun s => s.rereadSelection.callTables) s

/-! ## Group inhibits and restart -/

/-- R205: the group of a parameter byte. -/
def groupOf (g : Byte) : Option Group :=
  if g = 0 then some .drive
  else if g = 1 then some .lighting
  else if g = 2 then some .audio
  else if g = 3 then some .sounders
  else none

/-- R205: a group is inhibited. -/
def Inhibits.has (x : Inhibits) : Group → Bool
  | .drive => x.drive
  | .lighting => x.lighting
  | .audio => x.audio
  | .sounders => x.sounders

/-- R205: a group added to the inhibits or removed. -/
def Inhibits.put (x : Inhibits) (g : Group) (on : Bool) : Inhibits :=
  match g with
  | .drive => { x with drive := on }
  | .lighting => { x with lighting := on }
  | .audio => { x with audio := on }
  | .sounders => { x with sounders := on }

/-- R205: the group's owner is told of the inhibit. AU's circuits read the audio inhibit as they stand (R157). -/
def State.inhibitSet (g : Group) (s : State) : State :=
  match g with
  | .drive => s.inhibitDrive
  | .lighting => { s with le := { s.le with forced := true } }
  | .audio => s
  | .sounders => s.setSounders

/-- R205: the group's owner is told that the inhibit is cleared: the curtain does not move of its own accord
(R63), and the lines stay on until the next cycle start (R139). -/
def State.inhibitCleared (g : Group) (s : State) : State :=
  match g with
  | .drive => s
  | .lighting => s
  | .audio => s
  | .sounders => s.setSounders

/-- R205: a group's inhibit changes, with its INHIBIT report. -/
def State.putInhibit (g : Group) (on : Bool) (station : Station) (s : State) : State :=
  { s with im := { s.im with inhibit := s.im.inhibit.put g on } }.addReport
    (.inhibit g on station (s.im.inhibit.put g on))

/-- R205: INHIBIT_GROUP. -/
def askInhibitGroup (h : Hdr) (group : Byte) : Handler :=
  match groupOf group with
  | none => refused .eParam
  | some g =>
    withLevel h.station 0 <| notBusy <|
      need (fun s => s.perf.phase = .dark) .ePhase fun s =>
        if s.im.inhibit.has g then (s, .ok []) else ((s.putInhibit g true h.station).inhibitSet g, .ok [])

/-- INHIBIT_GROUP (R205). -/
def execInhibitGroup (h : Hdr) (group : Byte) (s : State) : Out :=
  arrive (.inhibitGroup h group) h (fun _ => askInhibitGroup h group) s

/-- R205: CLEAR_INHIBIT. -/
def askClearInhibit (h : Hdr) (group : Byte) : Handler :=
  match groupOf group with
  | none => refused .eParam
  | some g =>
    withLevel h.station 0 <| notBusy <|
      need (fun s => s.im.inhibit.has g) .eNothing fun s =>
        ((s.putInhibit g false h.station).inhibitCleared g, .ok [])

/-- CLEAR_INHIBIT (R205). -/
def execClearInhibit (h : Hdr) (group : Byte) (s : State) : Out :=
  arrive (.clearInhibit h group) h (fun _ => askClearInhibit h group) s

/-- R206: RESTART; `p` is the paired record the station held. The reset follows the reply (R195). -/
def askRestart (h : Hdr) (p : Option Paired) : Handler :=
  withLevel h.station 0 <|
    need (pairedWith .restart p) .eSequence <| notBusy <|
    need (fun s => s.perf.phase = .dark) .ePhase <|
    need (fun s => s.al.stage = .quiet) .eStage <|
    need (fun s => !s.cc.state.moving) .eMotion fun s => ({ s with dl := { s.dl with restarting := true } }, .ok [])

/-- RESTART (R206). -/
def execRestart (h : Hdr) (s : State) : Out := arrive (.restart h) h (askRestart h) s

/-- RESTART_RESET (R195): the last byte of the RESTART reply has been sent. -/
def execRestartReset (s : State) : Out :=
  event (fun s => if s.dl.restarting && s.dl.slot.isNone then s.restart else s) s

end Sys2Proof.Machine
end

