-- ==== Sys2Proof/Machine/Link.lean ====
section
/-! DEFINITION. The Desk Link: the receiver (R180 to R183), taking requests (R184, R185), and sending (R189, R190,
R194, R195). -/

namespace Sys2Proof.Machine

/-! ## The receiver -/

/-- R183: the low nibble of a kind byte. -/
def nibble (b : Byte) : Station := ⟨(b.extractLsb' 0 4).toNat, (b.extractLsb' 0 4).isLt⟩

/-- R183: the frame-error item of a discarded frame, from the bytes received after the sync byte. -/
def frameError (r : FrameReason) (l : List Byte) : RxItem :=
  .error { reason := r, station := nibble (l.getD 1 0), tag := l.getD 2 0, count := l.length }

/-- R183: the checks of a completed frame: its length byte, its n bytes, and its CRC. -/
def completedItem (l : List Byte) : RxItem :=
  let n := (l.getD 0 0).toNat
  if sliceOf l (n + 1) 2 ≠ halfBytes (crc16 (l.take (n + 1))) then frameError .crc l
  else if (l.getD 1 0).extractLsb' 4 4 ≠ 0 then frameError .kind l
  else if n ≠ (l.getD 4 0).toNat + 4 then frameError .length l
  else .request { station := nibble (l.getD 1 0), tag := l.getD 2 0 } (l.getD 3 0) (sliceOf l 5 (n - 4))

/-- R183: the receiver returns to HUNT. -/
def Link.hunt (d : Link) : Link := { d with rx := .hunt, n := 0, bytes := [] }

/-- R183: a byte in LENGTH. -/
def Link.lengthByte (d : Link) (b : Byte) : Link :=
  if 4 ≤ b.toNat ∧ b.toNat ≤ Config.longestFrame then { d with rx := .body, n := b.toNat, bytes := [b] }
  else d.hunt.addItem (frameError .length [b])

/-- R183: a byte in BODY. -/
def Link.bodyByte (d : Link) (b : Byte) : Link :=
  { d with bytes := d.bytes ++ [b], rx := if d.n ≤ d.bytes.length then .check else .body }

/-- R183: a byte in CHECK: the first CRC byte is stored, and the second completes the frame. -/
def Link.checkByte (d : Link) (b : Byte) : Link :=
  if d.bytes.length < d.n + 2 then { d with bytes := d.bytes ++ [b] }
  else d.hunt.addItem (completedItem (d.bytes ++ [b]))

/-- R183: the receiver takes a byte. -/
def Link.byte (d : Link) (b : Byte) : Link :=
  match d.rx with
  | .hunt => if b = 0xC3 then { d with rx := .length, n := 0, bytes := [] } else d
  | .length => d.lengthByte b
  | .body => d.bodyByte b
  | .check => d.checkByte b

/-- A byte reaches the receiver. -/
def State.byte (b : Byte) (s : State) : State := { s with dl := s.dl.byte b }

/-- BYTE_RECEIVED (R183); a byte without its stop bit is dropped (R180). -/
def execByteReceived (byte : Byte) (stopBit : Bool) (s : State) : Out :=
  event (fun s => if stopBit then s.byte byte else s) s

/-- FRAME_RECEIVED (R183): the byte that completes a frame. -/
def execFrameReceived (byte : Byte) (s : State) : Out := event (State.byte byte) s

/-- LENGTH_BYTE_INVALID (R183): a length byte that starts no frame. -/
def execLengthByteInvalid (byte : Byte) (s : State) : Out := event (State.byte byte) s

/-- FRAME_TIMEOUT (R183): the frame that runs is discarded. DESIGN CHOICE, unsafe: notes/assumptions/30.md. -/
def execFrameTimeout (s : State) : Out :=
  event (fun s =>
    if s.dl.rx = .hunt then s
    else { s with dl := s.dl.hunt.addItem (frameError .timeout s.dl.bytes) }) s

/-! ## Taking requests -/

/-- R185: what the block that owns a request does with it. -/
def handlerOf (i : Instr) (p : Option Paired) : Handler :=
  match i with
  | .status h => askStatus h
  | .describe h => askDescribe h
  | .useGate h a => askUseGate h a
  | .resetEnable h a => askResetEnable h a
  | .readObject h a => askReadObject h a
  | .readStation h a => askReadStation h a
  | .setClock h v => askSetClock h v
  | .prepare h => askPrepare h
  | .openHouse h => askOpenHouse h
  | .beginAct h => askBeginAct h
  | .beginInterval h m a => askBeginInterval h m a
  | .extendInterval h m => askExtendInterval h m
  | .closeHouse h => askCloseHouse h
  | .goDark h => askGoDark h
  | .lower h a => askLower h a
  | .permitRaise h => askPermitRaise h
  | .raise h a => askRaise h a
  | .hold h a => askHold h a
  | .resume h a => askResume h a
  | .clearFault h => askClearFault h
  | .releaseLock h => askReleaseLock h
  | .readMovements h => askReadMovements h
  | .isolate h a m => askIsolate h a m
  | .deisolate h a => askDeisolate h a
  | .readAlarmList h => askReadAlarmList h
  | .readLines h => askReadLines h
  | .acknowledge h => askAcknowledge h
  | .evacuateNow h => askEvacuateNow h
  | .silence h => askSilence h
  | .alarmReset h => askAlarmReset h p
  | .setLevel h a l f => askSetLevel h a l f
  | .standby h a => askStandby h a
  | .go h => askGo h
  | .setCycle h n => askSetCycle h n
  | .readChannel h a => askReadChannel h a
  | .supervise h w l => askSupervise h w l
  | .keepalive h => askKeepalive h
  | .forceExpire h => askForceExpire h
  | .superviseOff h => askSuperviseOff h
  | .callNow h k n r zs => askCall h State.clock k n r zs
  | .callAt h d k n r zs => askCall h (fun _ => d) k n r zs
  | .callCancel h id => askCallCancel h id
  | .readQueue h => askReadQueue h
  | .pageOpen h zs => askPageOpen h zs
  | .pageClose h => askPageClose h
  | .commissionBegin h => askCommissionBegin h
  | .writeObject h t a b body => askWriteObject h t a b body
  | .writeStation h n x c => askWriteStation h n x c
  | .writeParamsSection0 h l a v m n => askWriteParamsSection0 h l a v m n
  | .writeParamsSection1 h x ns => askWriteParamsSection1 h x ns
  | .commit h => askCommit h
  | .abort h => askAbort h
  | .inhibitGroup h g => askInhibitGroup h g
  | .clearInhibit h g => askClearInhibit h g
  | .restart h => askRestart h p
  | _ => refused .eCode

/-- R185: a decoded request, after its code and the starting test. -/
def handleDecoded (h : Hdr) (d : Decoded) (p : Option Paired) : Handler :=
  match d with
  | .unknown => refused .eCode
  | .malformed => refused .eParam
  | .malformedWrite => askMalformedWrite h
  | .request i => handlerOf i p

/-- R22 and R185: an unknown code is answered E_CODE and removes the station's paired record. -/
def State.answerUnknown (h : Hdr) (code : Byte) (s : State) : State :=
  { s with paired := s.paired.set h.station none }.putReply h code (.refuse .eCode)

/-- R185: a request taken from the receive buffer is handled through to its reply. -/
def State.handle (h : Hdr) (code : Byte) (params : List Byte) (s : State) : State :=
  match decodeRequest h code params with
  | .unknown => s.answerUnknown h code
  | d => serve h code (handleDecoded h d) s

/-- R184: the oldest item of the receive buffer is taken. -/
def State.takeItem (s : State) : State :=
  match s.dl.buffer with
  | [] => s
  | .error e :: rest => { s with dl := { s.dl with buffer := rest }.putSlot (.error e) }
  | .request h code params :: rest => { s with dl := { s.dl with buffer := rest } }.handle h code params

/-- R184 and R195: DL takes an item. -/
def State.takes (s : State) : Bool := s.dl.slot.isNone && !s.dl.restarting && !s.dl.buffer.isEmpty

/-- TAKE_ITEM (R184). -/
def execTakeItem (s : State) : Out := event (fun s => if s.takes then s.takeItem else s) s

/-- UNKNOWN_REQUEST_CODE (R185): a request frame whose code is not in the table of R197 arrives. -/
def execUnknownRequestCode (h : Hdr) (code : Byte) (params : List Byte) (s : State) : Out :=
  event (fun s =>
    if s.linkFree then s.handle h code params
    else { s with dl := s.dl.addItem (.request h code params) }) s

/-! ## Sending -/

/-- R189: the part of a reply that goes next. -/
def Outgoing.frame : Outgoing → List Byte
  | .reply r part => r.frame part
  | .error e => e.frame

/-- R186 and R189: what stays in the reply slot once its next frame is started. -/
def Slot.rest (x : Slot) : Option Slot :=
  match x.what with
  | .reply r part => if part + 1 < r.parts then some { x with what := .reply r (part + 1) } else none
  | .error _ => none

/-- R186: a reply of several parts is being sent: no other frame goes between them. -/
def Slot.begun (x : Slot) : Bool :=
  match x.what with
  | .reply _ part => decide (part ≠ 0)
  | .error _ => false

/-- R189: the transmitter starts the frame of the reply slot. -/
def Link.sendSlot (d : Link) (x : Slot) : Link := { d with line := some x.what.frame, slot := x.rest }

/-- R190: the transmitter starts the oldest report, with the overrun marker. -/
def Link.sendReport (d : Link) (q : Queued) (rest : List Queued) : Link :=
  { d with line := some (reportFrame d.overrun q.stamp q.report), reports := rest, overrun := false }

/-- R189: the transmitter starts the oldest waiting frame; `waiting` are the reports that may be sent.
DESIGN CHOICE, unsafe: notes/assumptions/27.md. -/
def Link.send (d : Link) (waiting : List Queued) : Link :=
  match d.slot, waiting with
  | none, [] => d
  | some x, [] => d.sendSlot x
  | none, q :: rest => if d.restarting then d else d.sendReport q rest
  | some x, q :: rest => if x.begun || decide (x.order < q.order) then d.sendSlot x else d.sendReport q rest

/-- TRANSMIT_START (R189, R194): the transmitter is free; no report is sent while the image is loaded. -/
def execTransmitStart (s : State) : Out :=
  event (fun s => { s with dl := s.dl.send (if s.im.starting then [] else s.dl.reports) }) s

end Sys2Proof.Machine
end

