-- ==== Sys2Proof/Machine/Idle.lean ====
section
/-! DEFINITION. What the part does while no command waits: it hands on a notice, takes what it can take of its own
accord, sends itself the events whose due time is reached (R26), or counts one PWM count (R135), the last of which in
every 10 ms is a tick of the show clock (R25). The table of commands has no row for either (see
notes/assumptions/3.md). -/

namespace Sys2Proof.Machine

/-- A command, when its condition holds. -/
def when (c : Bool) (i : Instr) : List Instr := if c then [i] else []

/-- R43 and R70: the grid sample that CC takes now, with its inputs as they stand. -/
def State.sampleNow (s : State) : Instr :=
  .curtainSample (BitVec.ofNat 16 s.cc.position) s.cc.top s.cc.bottom s.cc.settingClear

/-- R26 and R70: the events of the Curtain Controller, the Alarm Unit, the Override Selector and the Show Sequencer
whose due time is reached. -/
def State.houseDue (s : State) : List Instr :=
  when s.sampleDue s.sampleNow ++
    when (dueReached s.clock s.cc.permit) .permitExpiry ++
    when (s.cc.state = .held && dueReached s.clock s.cc.heldExpiry) .heldExpiry ++
    (List.finRange 32).flatMap (fun n => when
      ((s.al.lines[n].isolation.map fun x => dueReached s.clock x.stop).getD false) (.isolationExpiry n)) ++
    when (s.al.stage = .alert && dueReached s.clock s.al.ackDue) .ackTimeout ++
    when (s.al.stage = .investigate && dueReached s.clock s.al.invDue) .investigateTimeout ++
    when (dueReached s.clock s.al.knockEnd) .knockWindowEnd ++
    when (s.os.sup.enabled && !s.os.deskLoss && dueReached s.clock s.os.sup.deadline) .deskDeadline ++
    when (s.watch && dueReached s.clock s.perf.intervalEnd) .intervalDue

/-- R166 to R170: the events of one call whose due time is reached. -/
def Call.dueEvents (c : Call) (now : Clock) : List Instr :=
  when (c.state = .queued && reached now c.due) (.callDue c.id) ++
    when (c.state = .waiting && reached now (c.due + Config.staleTicks)) (.callStale c.id) ++
    match c.playback, c.source, c.kind with
    | .note _ due, some i, _ => when (reached now due) (.chimeNoteEnd i)
    | .gap due, some i, .chime _ => when (reached now due) (.chimeRepeatGapEnd i)
    | .gap due, some i, .message _ => when (reached now due) (.messageRepeatGapEnd i)
    | .dip due, _, _ => when (reached now due) (.flickDipEnd c.id)
    | .back due, _, _ => when (reached now due) (.flickRepeatEnd c.id)
    | _, _, _ => []

/-- R26: the events of the Call Unit whose due time is reached. -/
def State.callsDue (s : State) : List Instr :=
  when ((s.cu.page.map fun p => reached s.clock p.limit).getD false) .pageLimit ++
    when ((s.cu.staff.map fun x => dueReached s.clock x.repeatDue).getD false) .staffRepeatDue ++
    (List.finRange 2).flatMap (fun i => when
      (s.cu.channels[i].trigger && dueReached s.clock s.cu.channels[i].limit) (.playLimit i)) ++
    s.cu.queue.flatMap fun c => c.dueEvents s.clock

/-- R22, R199, R202 and R203: the events of the Authority Unit and of Image and Maintenance whose due time is
reached. -/
def State.maintDue (s : State) : List Instr :=
  (List.finRange 16).flatMap (fun st : Fin 16 => when
      ((s.paired[st].map fun p => reached s.clock p.expiry).getD false) (.pairedExpiry st)) ++
    when (s.im.starting && s.im.img && dueReached s.clock s.im.loadDue) .loadTimeout ++
    when (decide (s.im.comm = .writing) && (s.im.work.map fun w => reached s.clock w.due).getD false) .commitTimeout ++
    when (decide (s.im.comm = .reloading) && s.im.img && (s.im.work.map fun w => reached s.clock w.due).getD false)
      .reloadTimeout

/-- The events that are due. -/
def State.dueEvents (s : State) : List Instr := s.houseDue ++ s.callsDue ++ s.maintDue

/-- R199 and R203: a load or a reload that reads no memory ends at once. -/
def State.endsAtOnce (s : State) : List Instr :=
  when (s.im.starting && !s.im.img) (.imageLoadEnd none) ++
    when (decide (s.im.comm = .reloading) && !s.im.img) (.reloadEnd none)

/-- R25 and R135: the PWM counts of one tick of the show clock: 10 ms at 2.048 MHz. -/
def pwmCounts : Nat := 20480

/-- R135: the counter counts to 2^N - 1 and returns to 0. -/
def Lighting.nextCount (l : Lighting) : Nat := (l.counter + 1) % 2 ^ l.cycle

/-- R43: the field inputs take new levels. -/
def State.setPins (p : Pins) (s : State) : State :=
  { s with cc := { s.cc with position := p.position.toNat, top := p.top, bottom := p.bottom,
                             settingClear := p.settingClear, driveReady := p.driveReady } }

/-- R43: the events of the field inputs that change when they take new levels. -/
def Curtain.pinEvents (c : Curtain) (p : Pins) : List Instr :=
  when (p.top != c.top || p.bottom != c.bottom) (.limitChange p.position p.top p.bottom) ++
    when (p.settingClear != c.settingClear) (.settingLineChange p.settingClear) ++
    when (p.driveReady != c.driveReady) (.driveReadyChange p.driveReady)

/-- R43: the field inputs take the next levels that come from outside, where some stand, and a change of them is
an event. -/
def State.nextPins (s : State) : State :=
  match s.inputs with
  | [] => s
  | p :: rest => { (s.setPins p) with inputs := rest, pending := s.cc.pinEvents p }

/-- R25, R43 and R126: one tick of the show clock: the field inputs take their next levels, and a fade tick comes
every second one. -/
def State.tick (s : State) : State :=
  let s1 := s.nextPins
  { s1 with
    clock := s.clock + 1
    le := { s.le with tickCount := 0, fadeHalf := !s.le.fadeHalf }
    pending := s1.pending ++ when s.le.fadeHalf .fadeTick }

/-- R25 and R135: one count at 2.048 MHz: the PWM counter counts, its return to 0 is a cycle start, and the last
count of a 10 ms tick is the tick. DESIGN CHOICE, unsafe: notes/assumptions/3.md. -/
def State.count (s : State) : State :=
  let s1 := if s.le.tickCount + 1 < pwmCounts then { s with le := { s.le with tickCount := s.le.tickCount + 1 } }
    else s.tick
  { s1 with
    le := { s1.le with counter := s.le.nextCount }
    pending := s1.pending ++ when (s.le.nextCount == 0) .cycleStart }

/-- What the part does with no command waiting. DESIGN CHOICE, unsafe: notes/assumptions/3.md. -/
def State.idle (s : State) : State :=
  if s.inReset then s
  else match s.notices with
    | i :: _ => { s with pending := [i] }
    | [] =>
      match s.endsAtOnce ++ when s.takes .takeItem with
      | i :: _ => { s with pending := [i] }
      | [] =>
        match s.dueEvents with
        | i :: rest => { s with pending := i :: rest }
        | [] => s.count

end Sys2Proof.Machine
end

