-- ==== Sys2Proof/Machine/Dispatch.lean ====
section
/-! DEFINITION. The meaning of every command: one arm per constructor of `Instr`. -/

namespace Sys2Proof.Machine

def exec (i : Instr) (s : State) : Host.Outcome State Fault Refusal :=
  match i with
  | .powerOnReset => Sys2Proof.Machine.execPowerOnReset s
  | .resetEnd lr img position top bottom settingClear driveReady => Sys2Proof.Machine.execResetEnd lr img position top bottom settingClear driveReady s
  | .imageLoadEnd read => Sys2Proof.Machine.execImageLoadEnd read s
  | .loadTimeout => Sys2Proof.Machine.execLoadTimeout s
  | .frameReceived byte => Sys2Proof.Machine.execFrameReceived byte s
  | .lengthByteInvalid byte => Sys2Proof.Machine.execLengthByteInvalid byte s
  | .frameTimeout => Sys2Proof.Machine.execFrameTimeout s
  | .takeItem => Sys2Proof.Machine.execTakeItem s
  | .unknownRequestCode h code params => Sys2Proof.Machine.execUnknownRequestCode h code params s
  | .transmitStart => Sys2Proof.Machine.execTransmitStart s
  | .restartReset => Sys2Proof.Machine.execRestartReset s
  | .status h => Sys2Proof.Machine.execStatus h s
  | .describe h => Sys2Proof.Machine.execDescribe h s
  | .useGate h gate => Sys2Proof.Machine.execUseGate h gate s
  | .resetEnable h action => Sys2Proof.Machine.execResetEnable h action s
  | .readObject h object => Sys2Proof.Machine.execReadObject h object s
  | .readStation h number => Sys2Proof.Machine.execReadStation h number s
  | .setClock h value => Sys2Proof.Machine.execSetClock h value s
  | .prepare h => Sys2Proof.Machine.execPrepare h s
  | .openHouse h => Sys2Proof.Machine.execOpenHouse h s
  | .beginAct h => Sys2Proof.Machine.execBeginAct h s
  | .beginInterval h minutes script => Sys2Proof.Machine.execBeginInterval h minutes script s
  | .extendInterval h minutes => Sys2Proof.Machine.execExtendInterval h minutes s
  | .closeHouse h => Sys2Proof.Machine.execCloseHouse h s
  | .goDark h => Sys2Proof.Machine.execGoDark h s
  | .intervalDue => Sys2Proof.Machine.execIntervalDue s
  | .lower h curtain => Sys2Proof.Machine.execLower h curtain s
  | .permitRaise h => Sys2Proof.Machine.execPermitRaise h s
  | .raise h curtain => Sys2Proof.Machine.execRaise h curtain s
  | .hold h curtain => Sys2Proof.Machine.execHold h curtain s
  | .resume h curtain => Sys2Proof.Machine.execResume h curtain s
  | .clearFault h => Sys2Proof.Machine.execClearFault h s
  | .releaseLock h => Sys2Proof.Machine.execReleaseLock h s
  | .readMovements h => Sys2Proof.Machine.execReadMovements h s
  | .permitExpiry => Sys2Proof.Machine.execPermitExpiry s
  | .heldExpiry => Sys2Proof.Machine.execHeldExpiry s
  | .limitChange position top bottom => Sys2Proof.Machine.execLimitChange position top bottom s
  | .settingLineChange settingClear => Sys2Proof.Machine.execSettingLineChange settingClear s
  | .driveReadyChange driveReady => Sys2Proof.Machine.execDriveReadyChange driveReady s
  | .fireTrigger => Sys2Proof.Machine.execFireTrigger s
  | .alarmQuiet => Sys2Proof.Machine.execAlarmQuiet s
  | .curtainSample position top bottom settingClear => Sys2Proof.Machine.execCurtainSample position top bottom settingClear s
  | .movementNotice kind outcome held duration tLimit => Sys2Proof.Machine.execMovementNotice kind outcome held duration tLimit s
  | .lineSample line code => Sys2Proof.Machine.execLineSample line code s
  | .isolate h line minutes => Sys2Proof.Machine.execIsolate h line minutes s
  | .deisolate h line => Sys2Proof.Machine.execDeisolate h line s
  | .isolationExpiry line => Sys2Proof.Machine.execIsolationExpiry line s
  | .readAlarmList h => Sys2Proof.Machine.execReadAlarmList h s
  | .readLines h => Sys2Proof.Machine.execReadLines h s
  | .acknowledge h => Sys2Proof.Machine.execAcknowledge h s
  | .ackTimeout => Sys2Proof.Machine.execAckTimeout s
  | .investigateTimeout => Sys2Proof.Machine.execInvestigateTimeout s
  | .evacuateNow h => Sys2Proof.Machine.execEvacuateNow h s
  | .silence h => Sys2Proof.Machine.execSilence h s
  | .alarmReset h => Sys2Proof.Machine.execAlarmReset h s
  | .knockWindowEnd => Sys2Proof.Machine.execKnockWindowEnd s
  | .alertNotice => Sys2Proof.Machine.execAlertNotice s
  | .evacuatedNotice => Sys2Proof.Machine.execEvacuatedNotice s
  | .deskLossNotice => Sys2Proof.Machine.execDeskLossNotice s
  | .callAbandonedNotice => Sys2Proof.Machine.execCallAbandonedNotice s
  | .setLevel h channel level fade => Sys2Proof.Machine.execSetLevel h channel level fade s
  | .standby h preset => Sys2Proof.Machine.execStandby h preset s
  | .go h => Sys2Proof.Machine.execGo h s
  | .setCycle h length => Sys2Proof.Machine.execSetCycle h length s
  | .readChannel h channel => Sys2Proof.Machine.execReadChannel h channel s
  | .fadeTick => Sys2Proof.Machine.execFadeTick s
  | .cycleStart => Sys2Proof.Machine.execCycleStart s
  | .evacNotice active => Sys2Proof.Machine.execEvacNotice active s
  | .fireLockNotice set => Sys2Proof.Machine.execFireLockNotice set s
  | .flickNotice output on => Sys2Proof.Machine.execFlickNotice output on s
  | .supervise h window lock => Sys2Proof.Machine.execSupervise h window lock s
  | .keepalive h => Sys2Proof.Machine.execKeepalive h s
  | .forceExpire h => Sys2Proof.Machine.execForceExpire h s
  | .superviseOff h => Sys2Proof.Machine.execSuperviseOff h s
  | .deskDeadline => Sys2Proof.Machine.execDeskDeadline s
  | .callNow h kind number repeats zones => Sys2Proof.Machine.execCallNow h kind number repeats zones s
  | .callAt h due kind number repeats zones => Sys2Proof.Machine.execCallAt h due kind number repeats zones s
  | .callCancel h id => Sys2Proof.Machine.execCallCancel h id s
  | .readQueue h => Sys2Proof.Machine.execReadQueue h s
  | .pageOpen h zones => Sys2Proof.Machine.execPageOpen h zones s
  | .pageClose h => Sys2Proof.Machine.execPageClose h s
  | .pageLimit => Sys2Proof.Machine.execPageLimit s
  | .callDue id => Sys2Proof.Machine.execCallDue id s
  | .callStale id => Sys2Proof.Machine.execCallStale id s
  | .stageChangeNotice => Sys2Proof.Machine.execStageChangeNotice s
  | .phaseChangeNotice => Sys2Proof.Machine.execPhaseChangeNotice s
  | .evacuationMessageStart number => Sys2Proof.Machine.execEvacuationMessageStart number s
  | .evacuationMessageStop => Sys2Proof.Machine.execEvacuationMessageStop s
  | .staffCallStart zone message => Sys2Proof.Machine.execStaffCallStart zone message s
  | .staffCallStop => Sys2Proof.Machine.execStaffCallStop s
  | .staffRepeatDue => Sys2Proof.Machine.execStaffRepeatDue s
  | .messageEndSignal channel => Sys2Proof.Machine.execMessageEndSignal channel s
  | .playLimit channel => Sys2Proof.Machine.execPlayLimit channel s
  | .chimeNoteEnd generator => Sys2Proof.Machine.execChimeNoteEnd generator s
  | .chimeRepeatGapEnd generator => Sys2Proof.Machine.execChimeRepeatGapEnd generator s
  | .messageRepeatGapEnd channel => Sys2Proof.Machine.execMessageRepeatGapEnd channel s
  | .flickDipEnd id => Sys2Proof.Machine.execFlickDipEnd id s
  | .flickRepeatEnd id => Sys2Proof.Machine.execFlickRepeatEnd id s
  | .pairedExpiry station => Sys2Proof.Machine.execPairedExpiry station s
  | .commissionBegin h => Sys2Proof.Machine.execCommissionBegin h s
  | .writeObject h target object header body => Sys2Proof.Machine.execWriteObject h target object header body s
  | .writeStation h number present cpl => Sys2Proof.Machine.execWriteStation h number present cpl s
  | .writeParamsSection0 h houseLimit tAck tInv message cycle => Sys2Proof.Machine.execWriteParamsSection0 h houseLimit tAck tInv message cycle s
  | .writeParamsSection1 h pattern notes => Sys2Proof.Machine.execWriteParamsSection1 h pattern notes s
  | .commit h => Sys2Proof.Machine.execCommit h s
  | .commitWriteEnd readBack => Sys2Proof.Machine.execCommitWriteEnd readBack s
  | .commitTimeout => Sys2Proof.Machine.execCommitTimeout s
  | .abort h => Sys2Proof.Machine.execAbort h s
  | .reloadEnd read => Sys2Proof.Machine.execReloadEnd read s
  | .reloadTimeout => Sys2Proof.Machine.execReloadTimeout s
  | .inhibitGroup h group => Sys2Proof.Machine.execInhibitGroup h group s
  | .clearInhibit h group => Sys2Proof.Machine.execClearInhibit h group s
  | .restart h => Sys2Proof.Machine.execRestart h s
  | .byteReceived byte stopBit => Sys2Proof.Machine.execByteReceived byte stopBit s
  | .tableChangeNotice => Sys2Proof.Machine.execTableChangeNotice s

end Sys2Proof.Machine
end

