-- ==== Sys2Proof/WellFormed.lean ====
section
/-! DEFINITION. Which commands are well formed: what the outside can bring. A well-formed request fits in a frame
(R181); its parameter values are not restricted, since the part answers a bad one itself. A notice carries
values that its sender can hold. -/

namespace Sys2Proof

open Machine

/-- R199: the bytes that a read of the memory can give. -/
def readFits : Option (List Byte) → Bool
  | some l => decide (l.length ≤ Config.memoryBytes)
  | none => true

/-- R181: the parameters of a request fit in a frame. -/
def paramsFit (l : List Byte) : Bool := decide (l.length ≤ 236)

/-- R5: a staff message is 1..255. -/
def messageOk (m : Nat) : Bool := decide (1 ≤ m ∧ m ≤ 255)

/-- R40: what a movement notice can carry: a duration of R48 and a T_limit of R10. -/
def movementOk (duration tLimit : Nat) : Bool := decide (duration ≤ 1200 ∧ 50 ≤ tLimit ∧ tLimit ≤ 600)

/-- The commands that the outside, or a block that sends a notice, can bring. -/
def Instr.wellFormed (i : Instr) : Bool :=
  match i with
  | .imageLoadEnd r => readFits r
  | .commitWriteEnd r => readFits r
  | .reloadEnd r => readFits r
  | .lengthByteInvalid b => decide (b.toNat < 4 ∨ 240 < b.toNat)
  | .unknownRequestCode _ c l => !(requestCodes.contains c.toNat) && paramsFit l
  | .callNow _ _ _ _ zs => decide (zs.length ≤ 116)
  | .callAt _ _ _ _ _ zs => decide (zs.length ≤ 114)
  | .pageOpen _ zs => decide (zs.length ≤ 117)
  | .writeObject _ _ _ _ body => decide (body.length ≤ 231)
  | .writeParamsSection1 _ _ ns => decide (ns.length ≤ 77)
  | .evacuationMessageStart m => messageOk m
  | .staffCallStart z m => decide (1 ≤ z ∧ z ≤ 127) && m.all messageOk
  | .movementNotice _ _ _ d t => movementOk d t
  | _ => true

namespace Machine

/-- R168: a note whose divisor and duration lie in their ranges. -/
def Note.inRange (n : Note) : Bool :=
  decide (250 ≤ n.divisor ∧ n.divisor ≤ 2000 ∧ 1 ≤ n.duration ∧ n.duration ≤ 40)

/-- R162: a call kind whose number lies in its range. -/
def CallKind.inRange : CallKind → Bool
  | .chime p => decide (p ≤ 7)
  | .message m => decide (1 ≤ m ∧ m ≤ 255)
  | .flick => true

/-- R176: a script step whose fields lie in their ranges. -/
def ScriptStep.inRange (x : ScriptStep) : Bool :=
  decide (x.offset ≤ 3600 ∧ 1 ≤ x.zones.length ∧ x.zones.length ≤ 4 ∧ 1 ≤ x.repeats ∧ x.repeats ≤ 5) && x.kind.inRange

/-- R5: a ZONE body whose fields lie in their ranges. -/
def ZoneBody.inRange (z : ZoneBody) : Bool :=
  decide (z.channels.length ≤ 8 ∧ z.circuits.length ≤ 4 ∧ 1 ≤ z.staffMessage ∧ z.staffMessage ≤ 255) &&
    z.channels.all (fun i => decide (i ≤ 127)) && z.circuits.all fun i => decide (i ≤ 127)

/-- R8: a CHANNEL body whose fields lie in their ranges. -/
def ChannelBody.inRange (c : ChannelBody) : Bool :=
  decide (c.output ≤ 47 ∧ c.emergency ≤ 4095 ∧ c.hold ≤ 4095 ∧ c.flick ≤ 4095 ∧ c.start ≤ 4095)

/-- R11: a GATE body: the zone stands for MANUAL_CALL and for no other action. -/
def GateBody.inRange (g : GateBody) : Bool :=
  decide (g.zone.isSome = (g.action == .manualCall)) && g.zone.all fun z => decide (1 ≤ z ∧ z ≤ 127)

/-- R130: a PRESET body whose fields lie in their ranges. -/
def PresetBody.inRange (p : PresetBody) : Bool :=
  decide (p.fade ≤ 6000 ∧ 1 ≤ p.pairs.length ∧ p.pairs.length ≤ 16) && p.pairs.all fun x => decide (x.2 ≤ 4095)

/-- R4: every field of a body lies in its range. -/
def Body.inRange : Body → Bool
  | .zone z => z.inRange
  | .line b => decide (b.line ≤ 31 ∧ 1 ≤ b.zone ∧ b.zone ≤ 127)
  | .channel c => c.inRange
  | .circuit c => decide (c.output ≤ 15)
  | .curtain p => p.inRange
  | .gate g => g.inRange
  | .preset p => p.inRange
  | .script steps => decide (1 ≤ steps.length ∧ steps.length ≤ 8) && steps.all ScriptStep.inRange

end Machine

end Sys2Proof
end

