-- ==== Sys2Proof/Safety.lean ====
section
/-! DEFINITION. The terms in which claims about the machine are stated: when the part is ready for a request, what a
reply adds, and the laws that every step keeps. -/

namespace Sys2Proof.Machine

/-! ## Requests -/

/-- Reset and the image load have ended and nothing waits on the link: a request is handled at once (R184, R194). -/
def State.ready (s : State) : Prop := s.inReset = false ∧ s.im.starting = false ∧ s.linkFree = true

/-- The station is present and its level is at most `most` (R13, R14). -/
def State.admits (s : State) (st : Station) (most : Nat) : Prop :=
  s.stationPresent st = true ∧ (s.cpl st).val ≤ most

/-- The two bytes are a selector that passes the six checks of R14 for a station. -/
def State.passes (s : State) (st : Station) (raw : Half) (w : Want) (x : Selector) : Prop :=
  decodeSelector raw = some x ∧ s.stationPresent st = true ∧ s.tab.firstFault st (s.cpl st) w [x] = none

/-- The same for a list of selectors. -/
def State.passesAll (s : State) (st : Station) (raws : List Half) (w : Want) (xs : List Selector) : Prop :=
  decodeSelectors raws = some xs ∧ s.stationPresent st = true ∧ s.tab.firstFault st (s.cpl st) w xs = none

/-- R22: every request removes the paired record of its station. -/
def State.unpaired (st : Station) (s : State) : State := { s with paired := s.paired.set st none }

/-- R186: the reply in the slot, its status and its data. -/
def State.replied (h : Hdr) (code : Byte) (status : Status) (data : List Byte) (s : State) : State :=
  s.putReply h code { status, data }

/-- R186: what waits in the reply slot is the whole reply to a request. -/
def State.answers (t : State) (h : Hdr) (code : Byte) (status : Status) (data : List Byte) : Prop :=
  t.dl.slot.map Slot.what = some (.reply { hdr := h, code, status, data } 0)

/-- R190: of a link, what producing reports changes, taken from another. -/
def Link.reported (d e : Link) : Link :=
  { d with reports := e.reports, overrun := e.overrun, nextOrder := e.nextOrder }

/-- R186 and R190: of a link, what reports and a reply change, taken from another. -/
def Link.sent (d e : Link) : Link := { d.reported e with slot := e.slot }

/-- A command that carries a request of the table of R197. -/
def Instr.isRequest (i : Instr) : Bool := (headerOf i).isSome

/-- R188: the statuses of a request that is taken. -/
def Status.taken : Status → Bool
  | .ok => true
  | .wPartial => true
  | _ => false

/-- R184: the request at the head of the receive buffer. -/
def State.headRequest (s : State) : Option Instr :=
  match s.dl.buffer with
  | .request h code params :: _ =>
    match decodeRequest h code params with
    | .request i => some i
    | _ => none
  | _ => none

/-- R184: the command `i` hands on the request `j`: it is that request, or TAKE_ITEM finds it at the head of the
receive buffer. -/
def State.handles (s : State) (i j : Instr) : Prop := i = j ∨ (i = .takeItem ∧ s.headRequest = some j)

/-! ## Reports -/

/-- R190: a link that several reports have joined, in their order. -/
def Link.addReports (d : Link) (now : Clock) (l : List Report) : Link := l.foldl (fun d r => d.addReport now r) d

/-- R190: from `s` to `t` these reports are produced, in this order, and no other: each joins the queue at its newest
end with the clock value as its timestamp, and a full queue loses its oldest with the overrun flag set. -/
def State.produces (s t : State) (l : List Report) : Prop :=
  t.dl.reports = (s.dl.addReports s.clock l).reports ∧ t.dl.overrun = (s.dl.addReports s.clock l).overrun

/-- R166 and R173: a report that a start scan produces: a call STARTED, or ABANDONED for NO_CIRCUITS. -/
def Report.ofScan : Report → Prop
  | .call r => (∃ c n, r.subject = .call c n) ∧
      (r.event = .started ∧ r.reason = none ∨ r.event = .abandoned ∧ r.reason = some .noCircuits)
  | _ => False

/-- R173: the STARTED report of a call as its record then stands. -/
def Report.starts (c : Call) : Report → Prop
  | .call r => (∃ d n, r.subject = .call d n ∧ d.id = c.id) ∧ r.event = .started ∧ r.granted = c.granted ∧
      r.missed = c.missed
  | _ => False

/-- R166 and R173: from `s` to `t` the reports `first` are produced, then those of a start scan, then `last`. Every
call that waited and is PLAYING has its STARTED report among them; in EVACUATE and SILENCED no call starts. -/
def State.scansBetween (s t : State) (first last : List Report) : Prop :=
  ∃ more : List Report, s.produces t (first ++ more ++ last) ∧ (∀ r ∈ more, r.ofScan) ∧
    (s.al.stage.clearing = true → more = []) ∧
    ∀ c ∈ s.cu.queue, c.state = .waiting → (∀ d ∈ s.cu.queue, d.id = c.id → d = c) →
      ∀ d ∈ t.cu.queue, d.id = c.id → d.state = .playing → ∃ r ∈ more, r.starts d

/-- R173: the CALL report of a call that ends, its resources released. -/
def Calls.ended (u : Calls) (c : Call) (e : CallEvent) (why : Option CallReason) : Report :=
  .call { subject := .call { c with granted := 0 } (u.owned c.id).length, event := e, reason := why, granted := 0,
          missed := c.missed, lost := 0 }

/-- R173: a CALL report of the page; the reason stands for its end. -/
def Page.report (p : Page) (e : CallEvent) (why : Option CallReason) (granted lost : CircuitSet) : Report :=
  .call { subject := .page p.owner p.zones, event := e, reason := why, granted, missed := p.missed, lost }

/-- R171 and R173: the reports of calls of which a set of circuits is taken: PARTIAL while one is kept, ABANDONED for
PREEMPTED with the last. That the latter shows them as missed is the model's choice: notes/assumptions/23.md. -/
def Calls.losses (u : Calls) (calls : List Call) (got : CircuitSet) : List Report :=
  (calls.filter fun c => decide (c.state = .playing)).flatMap fun c =>
    let lost := c.granted &&& got
    let kept := { c with granted := c.granted &&& ~~~got, missed := c.missed ||| lost }
    if lost = 0 then []
    else if kept.granted = 0 then [u.ended kept .abandoned (some .preempted)]
    else [.call { subject := .call kept (u.owned c.id).length, event := .partialLoss, reason := none,
                  granted := kept.granted, missed := kept.missed, lost }]

/-- R173 and R175: the report of a page of which a set of circuits is taken. That it shows them as missed is the model's
choice: notes/assumptions/33.md. -/
def Calls.pageLoss (u : Calls) (got : CircuitSet) : List Report :=
  let lost := u.heldBy .page &&& got
  let kept := u.heldBy .page &&& ~~~got
  match u.page with
  | none => []
  | some p =>
    let q := { p with missed := p.missed ||| lost }
    if lost = 0 then []
    else if kept = 0 then [q.report .abandoned (some .preempted) 0 0]
    else [q.report .partialLoss none kept lost]

/-- R68: the CURTAIN report of a change to the curtain as it stands. -/
def State.curtainShown (previous : CurtainState) (cause : CurtainCause) (t : State) : Report :=
  .curtain { previous, state := t.cc.state, cause, record := t.cc.move.map fun m => m.record.kind,
             position := t.cc.position, lock := t.cc.lock, permit := t.cc.permit,
             reason := if t.cc.state = .fault then t.cc.reason else none }

/-! ## The lines at a change of the tables -/

/-- R89: from `s` to `t` every line takes a change of the tables to `tab`. -/
def State.linesFollow (s t : State) (tab : Tables) : Prop :=
  ∀ n : Fin 32,
    let r := s.al.lines[n]
    let afresh := { r with present := none, candidate := none, run := 0 }
    ((s.tab.lineEntry n).isSome = (tab.lineEntry n).isSome → t.al.lines[n] = r) ∧
    (s.tab.lineEntry n = none → (tab.lineEntry n).isSome = true → t.al.lines[n] = afresh) ∧
    ((s.tab.lineEntry n).isSome = true → tab.lineEntry n = none →
      (r.state = .isolated → t.al.lines[n] = r) ∧
      (r.state = .alarm → t.al.lines[n] = afresh) ∧
      (r.state ≠ .isolated → r.state ≠ .alarm → t.al.lines[n] = { afresh with state := .normal }))

/-- R89 and R91: the LINE reports of the lines in OPEN and SHORT that lose their last entry. -/
def State.lineLosses (s : State) (tab : Tables) : List Report :=
  (List.finRange 32).flatMap fun n : Fin 32 =>
    let r := s.al.lines[n]
    if (s.tab.lineEntry n).isSome ∧ tab.lineEntry n = none ∧ (r.state = .opened ∨ r.state = .short) then
      [.line { line := n.val, entry := 0, zone := 0, previous := r.state, state := .normal, cause := .entryRemoved,
               last := r.last }]
    else []

/-- R116: the notice to the curtain where a standing entry's zone gains the curtain trigger. -/
def State.triggerGained (s : State) (tab : Tables) : List Instr :=
  if s.al.stage.clearing = true ∧
      ∃ e ∈ s.al.list, tab.zoneTrigger e.zone = true ∧ s.tab.zoneTrigger e.zone = false then [.fireTrigger]
  else []

/-! ## Selection -/

/-- R136 and R142: a channel record that shows a selected level; its reload value is computed when that changes. -/
def Channel.shows (c : Channel) (cycle level : Nat) : Channel :=
  { c with selected := level, reload := if level = c.selected then c.reload else (level * 2 ^ cycle + 2047) / 4095 }

/-- R143 to R145: from `s` to `t` an output takes the first source that applies under the event set `o`, by a snap or
by a transition from its selected level. -/
def State.reselects (s t : State) (o : Overrides) (n : Fin 48) : Prop :=
  let old := s.os.selections[n]
  let c := s.le.channels[n]
  let b := s.tab.governing n
  let new := o.sourceOf n b
  (new = old.source → t.os.selections[n] = old ∧ t.le.channels[n] = c) ∧
  (new ≠ old.source → easeTicks old.source new = none →
    t.os.selections[n] = { source := new, transition := none } ∧
    t.le.channels[n] = c.shows s.le.cycle (new.value b c.primary)) ∧
  (∀ m, new ≠ old.source → easeTicks old.source new = some m →
    t.os.selections[n] = { source := new, transition := some { origin := c.selected, j := 0, m } } ∧
    t.le.channels[n] = c)

/-- R115, R143 and R147: the Override Selector takes EVAC within an entry into EVACUATE. Of it and the Lighting Engine
nothing else changes. -/
def State.takesEvac (s t : State) : Prop :=
  t.os = { s.os with evac := true, selections := t.os.selections } ∧
  t.le = { s.le with channels := t.le.channels } ∧
  (s.os.evac = true → t.os = s.os ∧ t.le = s.le) ∧
  (s.os.evac = false → ∀ n : Fin 48, s.reselects t { s.os with evac := true } n)

/-! ## Entry into EVACUATE -/

/-- R65: what the sequencer is told of a raise that the departure from QUIET ends. -/
def State.raiseEnds (s : State) : List Instr :=
  match if s.cc.state = .raising then s.cc.move else none with
  | none => []
  | some m => [.movementNotice m.record.kind .aborted m.record.held m.record.duration m.params.tLimit]

/-- R49, R65 and R68: the reports of a raise that the departure from QUIET ends. -/
def State.raiseReports (s : State) : List Report :=
  if s.cc.state = .raising then
    (match s.cc.move with
      | none => []
      | some m => [.movement { m.record with stop := some s.clock, outcome := some .aborted }]) ++
    [.curtain { previous := .raising, state := .parked, cause := .stage, record := none, position := s.cc.position,
                lock := s.cc.lock, permit := none, reason := none }]
  else []

/-- R65: what the departure from QUIET does to the curtain. -/
def State.leavesQuiet (s t : State) : Prop :=
  (s.cc.state ≠ .raising → t.cc = { s.cc with permit := none }) ∧
  ∀ m, s.cc.state = .raising → s.cc.move = some m → t.cc = { s.cc with
    permit := none, state := .parked, reason := none, move := none, heldExpiry := none
    log := appendLog s.cc.log { m.record with stop := some s.clock, outcome := some .aborted } }

/-- R106, R107 and R115: from `s` to `t` the Alarm Unit enters EVACUATE, with what each other block takes or is told
of it; `trigger` says that the list now holds an entry of a curtain-trigger zone. The reports `before` stand before the
STAGE report of the change `c`. -/
def State.evacuates (s t : State) (trigger : Bool) (before : List Report) (c : StageChange) : Prop :=
  t.al = { s.al with
    lines := t.al.lines, list := t.al.list, stage := .evacuate, enteredAt := s.clock, ackDue := none, invDue := none
    ackBy := none, sounders := !s.im.inhibit.sounders } ∧
  (if s.al.stage = .silenced then t.os = s.os ∧ t.le = s.le else s.takesEvac t) ∧
  (if s.al.stage = .quiet then s.leavesQuiet t else t.cc = s.cc) ∧
  t.notices =
    (if s.al.stage = .silenced then s.notices else s.notices.filter fun i => decide (i ≠ .evacNotice false)) ++
    [.evacuationMessageStart s.tab.params.message] ++ (if s.al.stage = .alert then [.staffCallStop] else []) ++
    (if s.al.stage = .quiet then s.raiseEnds else []) ++ [.evacuatedNotice] ++
    (if trigger then [.fireTrigger] else []) ++ [.stageChangeNotice] ∧
  s.produces t (before ++
    [.stage { previous := s.al.stage, stage := .evacuate, cause := c.cause, station := c.station, entry := c.entry,
              gate := c.gate, count := t.al.list.length, first := t.al.list.head?, due := none,
              knockEnd := s.al.knockEnd, sounders := !s.im.inhibit.sounders, fireSent := trigger }] ++
    if s.al.stage = .quiet then s.raiseReports else [])

/-! ## Fire-class triggers -/

/-- R49, R60, R62, R63, R68 to R70 and R85: from `s` to `t` the curtain takes a fire-class trigger of a kind, and the
other blocks are told. A record in progress that is not a fire-class lowering is closed ABORTED; the fire record
falls, or completes at its sample 0 with BOTTOM made, or is BLOCKED while the drive group is inhibited. -/
def State.triggered (s t : State) (c : LockCause) : Prop :=
  let stays := s.cc.state = .inn ∨ (s.cc.state = .lowering ∧ (s.im.inhibit.drive = true ∨ s.fireMove = true))
  let old :=
    if s.cc.state = .held ∨ s.cc.state = .raising ∨ (s.cc.state = .lowering ∧ ¬stays) then s.cc.move else none
  let log := match old with
    | none => s.cc.log
    | some m => appendLog s.cc.log { m.record with stop := some s.clock, outcome := some .aborted }
  let told := s.notices ++ (if s.cc.lock = none then [.fireLockNotice true] else []) ++ match old with
    | none => []
    | some m => [.movementNotice m.record.kind .aborted m.record.held m.record.duration m.params.tLimit]
  let locked : Curtain := { s.cc with lock := some (s.cc.lock.getD c), permit := none }
  let opened := MoveRec.opened c.kind s.clock s.cc.position
  let copy := s.tab.curtainCopy
  let closed := match old with
    | none => []
    | some m => [Report.movement { m.record with stop := some s.clock, outcome := some .aborted }]
  let shown := fun (x : CurtainState) (record : Option MoveKind) (reason : Option FaultReason) =>
    if s.cc.state ≠ x ∨ s.cc.lock = none then
      [Report.curtain { previous := s.cc.state, state := x, cause := c.report, record, position := s.cc.position,
                        lock := locked.lock, permit := none, reason }]
    else []
  let obstructed := s.cc.state ≠ .lowering ∧ s.cc.settingClear = false
  let warned := if obstructed then [Report.curtainWarn (.warn .obstructed) c.kind s.clock s.cc.position 0] else []
  (stays → t.cc = locked ∧ t.notices = told ∧
    s.produces t (shown s.cc.state (s.cc.move.map fun m => m.record.kind) none)) ∧
  (¬stays → s.im.inhibit.drive = true →
    let ended := s.cc.state = .held ∨ s.cc.state = .raising
    t.cc = { locked with
      state := if ended then .parked else s.cc.state, reason := if ended then none else s.cc.reason
      move := none, heldExpiry := none
      log := appendLog log { opened with stop := some s.clock, outcome := some .blocked } } ∧
    t.notices = told ++ [.movementNotice c.kind .blocked false 0 copy.tLimit] ∧
    s.produces t (closed ++ [.movement { opened with stop := some s.clock, outcome := some .blocked }] ++
      shown (if ended then .parked else s.cc.state) none (if s.cc.state = .fault then s.cc.reason else none))) ∧
  (¬stays → s.im.inhibit.drive = false → s.cc.bottom = false →
    t.notices = told ∧ s.produces t (closed ++ shown .lowering (some c.kind) none ++ warned) ∧ ∃ m,
      t.cc = { locked with
        state := .lowering, reason := if s.cc.state = .lowering then s.cc.reason else none, move := some m, log
        heldExpiry := if old.isSome then none else s.cc.heldExpiry } ∧
      (s.cc.state ≠ .lowering → m = { Movement.fresh c.kind copy s.clock s.cc.position with
        record := { opened with warns := if s.cc.settingClear then [] else [.obstructed] } }) ∧
      ∀ n, s.cc.state = .lowering → s.cc.move = some n → m = { n with
        record := opened, params := copy, elapsed := 0, slowCount := none, dashpotCount := 0, lateCount := 0 }) ∧
  (¬stays → s.im.inhibit.drive = false → s.cc.bottom = true →
    let mismatch := copy.travel / 50 < (s.cc.position - copy.travel) + (copy.travel - s.cc.position)
    let ended : MoveRec := { opened with
      stop := some s.clock, outcome := some .complete
      warns := (if obstructed then [.obstructed] else []) ++ if mismatch then [.encoderMismatch] else [] }
    t.notices = told ++ [.movementNotice c.kind .complete false 0 copy.tLimit] ∧
    t.cc = { locked with
      state := .inn, reason := none, move := none, heldExpiry := none, log := appendLog log ended } ∧
    s.produces t (closed ++ shown .lowering (some c.kind) none ++ warned ++
      [.movement ended, t.curtainShown .lowering .complete]))

/-! ## Laws of the blocks -/

/-- R53, R60 and R65: the curtain is raised only with the lock clear, the stage QUIET and the drive free, and a
permit stands only with the lock clear and the stage QUIET. -/
def State.raiseLaw (s : State) : Prop :=
  (s.cc.state = .raising → s.cc.lock = none ∧ s.al.stage = .quiet ∧ s.im.inhibit.drive = false) ∧
  (s.cc.permit.isSome = true → s.cc.lock = none ∧ s.al.stage = .quiet)

/-- R46 to R49: a record is open exactly while the curtain moves or is held, of the kind that its motion has; the
fault reason and the held expiry stand exactly in FAULT and in HELD; in reset nothing moves. -/
def State.curtainLaw (s : State) : Prop :=
  (s.cc.move.isSome = true ↔ s.cc.state = .lowering ∨ s.cc.state = .raising ∨ s.cc.state = .held) ∧
  (s.cc.state = .lowering → ∀ m ∈ s.cc.move, m.record.kind ≠ .raise) ∧
  (s.cc.state = .raising → ∀ m ∈ s.cc.move, m.record.kind = .raise) ∧
  (s.cc.state = .held → ∀ m ∈ s.cc.move, m.record.kind.fireClass = false) ∧
  (s.cc.reason.isSome = true ↔ s.cc.state = .fault) ∧
  (s.cc.heldExpiry.isSome = true ↔ s.cc.state = .held) ∧
  s.cc.log.length ≤ Config.logRecords ∧
  (s.inReset = true → s.cc.state = .parked)

/-- R104 and R118: the fields of the stage record that stand in each stage. -/
def State.stageLaw (s : State) : Prop :=
  (s.al.list = [] ↔ s.al.stage = .quiet) ∧
  (s.al.ackDue.isSome = true ↔ s.al.stage = .alert) ∧
  (s.al.invDue.isSome = true ↔ s.al.stage = .investigate) ∧
  (s.al.ackBy.isSome = true ↔ s.al.stage = .investigate) ∧
  (s.al.sounders = true ↔ s.al.stage = .evacuate ∧ s.im.inhibit.sounders = false)

/-- R118: the sounders are on while the stage is EVACUATE and the sounder group is not inhibited. -/
def State.sounderLaw (s : State) : Prop :=
  s.al.sounders = true ↔ s.al.stage = .evacuate ∧ s.im.inhibit.sounders = false

/-- R86, R97, R98 and R99: a line is in ALARM exactly while the list holds its entry, an isolation record stands
exactly in ISOLATED, no origin stands twice, and at most 16 entries are of gate origin. -/
def State.listLaw (s : State) : Prop :=
  (∀ n : Fin 32, s.al.lines[n].state = .alarm ↔ ∃ e ∈ s.al.list, e.origin = .line n.val) ∧
  (∀ n : Fin 32, s.al.lines[n].isolation.isSome = true ↔ s.al.lines[n].state = .isolated) ∧
  (∀ e ∈ s.al.list, ∀ k, e.origin = .line k → k < 32) ∧
  (s.al.list.map AlarmEntry.origin).Nodup ∧
  s.gateEntries ≤ 16

/-- R150 to R154: which fields of the supervision record stand together. -/
def State.supervisionLaw (s : State) : Prop :=
  (s.os.sup.locked = true → s.os.sup.enabled = true) ∧
  (s.os.deskLoss = true → s.os.sup.enabled = true) ∧
  (s.os.sup.station.isSome = s.os.sup.enabled) ∧
  (s.os.sup.deadline.isSome = (s.os.sup.enabled && !s.os.deskLoss)) ∧
  1 ≤ s.os.sup.window ∧ s.os.sup.window ≤ 255

/-- R32 to R34, R38 and R41: the act and interval counts, the interval end with its watch, and the iron duration. -/
def State.performanceLaw (s : State) : Prop :=
  s.perf.act ≤ 9 ∧ s.perf.interval ≤ 8 ∧
  (s.perf.intervalEnd.isSome = true ↔ s.perf.phase = .interval) ∧
  (s.watch = true → s.perf.phase = .interval) ∧
  (s.perf.ironDuration.isSome = true ↔ s.perf.iron ≠ .none)

/-- R4: an entry whose body, where it has one, has every field in its range and is of the entry's type, a type
that the table takes. -/
def Entry.sound (inLocal : Bool) (e : Entry) : Prop :=
  e.blankType.isLocal = inLocal ∧ ∀ b ∈ e.body, b.type = e.blankType ∧ b.inRange = true

/-- R1 to R11, R105 and R168: the ranges of the tables; station 0, house entry 0 and the house entries at or above
the limit are not present. -/
def Tables.law (t : Tables) : Prop :=
  t.stations[0].present = false ∧
  1 ≤ t.limit ∧ t.limit ≤ 128 ∧
  (∀ i : Fin 128, t.house[i].sound false) ∧
  t.house[0].present = false ∧
  (∀ i : Fin 128, t.limit ≤ i.val → t.house[i].present = false) ∧
  (∀ st : Station, ∀ i : Fin 16, t.locals[st][i].sound true) ∧
  (∀ p : Fin 8, 1 ≤ t.patterns[p].length ∧ t.patterns[p].length ≤ 4 ∧ ∀ n ∈ t.patterns[p], n.inRange = true) ∧
  10 ≤ t.params.tAck ∧ t.params.tAck ≤ 120 ∧ 60 ≤ t.params.tInv ∧ t.params.tInv ≤ 600 ∧
  1 ≤ t.params.message ∧ t.params.message ≤ 255 ∧ 8 ≤ t.params.cycle ∧ t.params.cycle ≤ 11

/-- The record of a call that sounds: PLAYING, and no flick. -/
def Calls.sounds (u : Calls) (id : Byte) : Prop := ∃ c ∈ u.queue, c.id = id ∧ c.sounding = true

/-- R156, R162, R163 and R166: at most 32 records, no call id twice, and every circuit, generator and message
channel that a call holds is held by the record of a call that sounds. -/
def State.callLaw (s : State) : Prop :=
  s.cu.queue.length ≤ Config.queueRecords ∧
  (s.cu.queue.map Call.id).Nodup ∧
  (∀ n : Fin 16, ∀ id, s.cu.circuits[n].holder = some (.call id) → s.cu.sounds id) ∧
  (∀ i : Fin 2, ∀ id, s.cu.generators[i].holder = some id → s.cu.sounds id) ∧
  (∀ i : Fin 2, ∀ id, s.cu.channels[i].holder = some (.call id) → s.cu.sounds id)

/-- R172: no call holds a circuit, a generator or a message channel. -/
def State.callsSilent (s : State) : Prop :=
  (∀ n : Fin 16, ∀ id, s.cu.circuits[n].holder ≠ some (.call id)) ∧
  (∀ i : Fin 2, s.cu.generators[i].holder = none) ∧
  (∀ i : Fin 2, ∀ id, s.cu.channels[i].holder ≠ some (.call id))

/-- R172: in EVACUATE and SILENCED no call holds anything, once the Call Unit has taken the notice of the stage. -/
def State.evacuationLaw (s : State) : Prop :=
  s.al.stage.clearing = true → (∀ n, Instr.evacuationMessageStart n ∉ s.notices) → s.callsSilent

/-! ## Laws of the evacuation -/

/-- R106: a command by which one block takes the notice of another. -/
def isNotice : Instr → Bool
  | .fireTrigger => true
  | .alarmQuiet => true
  | .movementNotice .. => true
  | .alertNotice => true
  | .evacuatedNotice => true
  | .deskLossNotice => true
  | .callAbandonedNotice => true
  | .evacNotice _ => true
  | .fireLockNotice _ => true
  | .flickNotice .. => true
  | .stageChangeNotice => true
  | .phaseChangeNotice => true
  | .evacuationMessageStart _ => true
  | .evacuationMessageStop => true
  | .staffCallStart .. => true
  | .staffCallStop => true
  | .tableChangeNotice => true
  | _ => false

/-- A notice at the front of the queue is the oldest that waits: none comes that no block has sent, and none out of
its turn. The queue is the model's choice: notes/assumptions/7.md. -/
def State.noticeInTurn (s : State) : Prop :=
  ∀ i rest, s.pending = i :: rest → isNotice i = true → s.notices.head? = some i

/-- The last of the notices of some kind that wait. -/
def State.lastNotice (s : State) (kind : Instr → Bool) : Option Instr := s.notices.reverse.find? kind

/-- R60: in EVACUATE and SILENCED with an entry of a curtain-trigger zone in the list, the fire lock is set once no
FIRE trigger waits. A return to QUIET that waits still stands before the FIRE trigger that follows it. -/
def State.fireLockLaw (s : State) : Prop :=
  s.al.stage.clearing = true → s.listTriggers = true →
    match s.lastNotice fun i => decide (i = .fireTrigger) || decide (i = .alarmQuiet) with
    | some i => i = .fireTrigger
    | none => s.cc.lock.isSome = true

/-- R106 and R143: EVAC is active in EVACUATE and SILENCED, and in no other stage once its notice is taken; FIRE_LOCK
is active exactly while the fire lock is set, once no notice of the lock waits. -/
def State.eventLaw (s : State) : Prop :=
  (s.al.stage.clearing = true → s.os.evac = true ∧ Instr.evacNotice false ∉ s.notices) ∧
  (s.os.evac = true → s.al.stage.clearing = true ∨ Instr.evacNotice false ∈ s.notices) ∧
  Instr.evacNotice true ∉ s.notices ∧
  (match s.lastNotice fun i => decide (i = .fireLockNotice true) || decide (i = .fireLockNotice false) with
    | some i => i = .fireLockNotice s.cc.lock.isSome
    | none => s.os.fireLock = s.cc.lock.isSome)

/-- R144 and R147: no transition stands in the source EMERGENCY; once no table change waits, every channel has the
first source that applies, and shows its emergency level in EMERGENCY. -/
def State.sourceLaw (s : State) : Prop :=
  ∀ n : Fin 48,
    (s.os.selections[n].source = .emergency → s.os.selections[n].transition = none) ∧
    (Instr.tableChangeNotice ∉ s.notices →
      s.os.selections[n].source = s.os.sourceOf n (s.tab.governing n) ∧
      ∀ b, s.tab.governing n = some b → s.os.selections[n].source = .emergency →
        s.le.channels[n].selected = b.emergency)

/-- R106: a notice that starts or stops the evacuation message. -/
def isMessageNotice : Instr → Bool
  | .evacuationMessageStart _ => true
  | .evacuationMessageStop => true
  | _ => false

/-- R156: in EVACUATE every circuit is held by the evacuation message, once its notice is taken. -/
def State.circuitLaw (s : State) : Prop :=
  s.al.stage = .evacuate →
    match s.lastNotice isMessageNotice with
    | some i => i ≠ .evacuationMessageStop
    | none => ∀ n : Fin 16, s.cu.circuits[n].holder = some .evacuation

/-- R163: the records stand in the order of their due times, and of their entry numbers among equal ones. -/
def State.queueLaw (s : State) : Prop := s.cu.queue.Pairwise fun a b => b.before s.clock a = false

/-- R124, R127, R135, R136 and R142: every level is 0..4095, every fade and transition has steps left, N is 8..11, the
PWM counter stays below 2^N, and no reload or high count passes it. -/
def State.lightingLaw (s : State) : Prop :=
  8 ≤ s.le.cycle ∧ s.le.cycle ≤ 11 ∧
  (∀ n ∈ s.le.pendingCycle, 8 ≤ n ∧ n ≤ 11) ∧
  s.le.counter < 2 ^ s.le.cycle ∧ s.le.tickCount < 20480 ∧
  ∀ i : Fin 48,
    s.le.channels[i].primary ≤ 4095 ∧ s.le.channels[i].selected ≤ 4095 ∧
    s.le.channels[i].reload = reloadOf s.le.channels[i].selected s.le.cycle ∧
    s.le.channels[i].high ≤ 2 ^ s.le.cycle ∧
    (∀ f ∈ s.le.channels[i].fade, f.start ≤ 4095 ∧ f.target ≤ 4095 ∧ f.k < f.n) ∧
    (∀ t ∈ s.os.selections[i].transition, t.origin ≤ 4095 ∧ t.j < t.m)

/-- R184 and R190: the bounds of the receive buffer, the overflow count and the report queue. -/
def State.linkLaw (s : State) : Prop :=
  s.dl.buffer.length ≤ Config.receiveItems ∧ s.dl.overflow ≤ 255 ∧ s.dl.reports.length ≤ Config.reportRecords

end Sys2Proof.Machine
end

