-- ==== Sys2Proof/Certificates/Slice0/Obligations.lean ====
section
/-! DEFINITION. The statements for the provers: what the commands and the machine do, by the numbered rules of the
spec. Each is listed in OBLIGATIONS.json. -/

open Sys2Proof Sys2Proof.Machine

/-! ## The machine, reset and the queue of commands -/

/-- A step takes the command at the front of the queue and executes it on the rest. -/
def Obligations.StepTakesTheFront : Prop :=
  ∀ (s : State) (i : Instr) (rest : List Instr),
    s.pending = i :: rest → step s = exec i { s with pending := rest }

/-- What a step does on an empty queue. The model's choice (notes/assumptions/3.md): the table has no row for a tick.
R135: the PWM counter counts to 2^N - 1 and returns to 0, which is a cycle start. R25: a tick comes every 10 ms. R70:
a grid sample that is due is among the due events. R43: a change of the field inputs is an event. Rests on the model's
choices of notes/assumptions/9.md. -/
def Obligations.IdleStep : Prop :=
  ∀ s : State, s.pending = [] →
    (s.inReset = true → step s = .next s) ∧
    (s.inReset = false → ∀ i rest, s.notices = i :: rest → step s = .next { s with pending := [i] }) ∧
    (s.inReset = false → s.notices = [] → s.im.starting = true → s.im.img = false →
      step s = .next { s with pending := [.imageLoadEnd none] }) ∧
    (s.inReset = false → s.notices = [] → s.im.starting = false → s.im.comm = .reloading → s.im.img = false →
      step s = .next { s with pending := [.reloadEnd none] }) ∧
    (s.inReset = false → s.notices = [] → (s.im.img = true ∨ s.im.starting = false ∧ s.im.comm ≠ .reloading) →
      (s.takes = true → step s = .next { s with pending := [.takeItem] }) ∧
      (s.takes = false → s.dueEvents ≠ [] → step s = .next { s with pending := s.dueEvents }) ∧
      (s.takes = false → s.dueEvents = [] →
        let count := (s.le.counter + 1) % 2 ^ s.le.cycle
        let starts := if count = 0 then [Instr.cycleStart] else []
        let ticked := fun (u : State) (changes : List Instr) => { u with
          clock := s.clock + 1
          le := { s.le with counter := count, tickCount := 0, fadeHalf := !s.le.fadeHalf }
          pending := changes ++ (if s.le.fadeHalf then [.fadeTick] else []) ++ starts }
        (s.le.tickCount + 1 < 20480 → step s = .next { s with
          le := { s.le with counter := count, tickCount := s.le.tickCount + 1 }, pending := starts }) ∧
        (20480 ≤ s.le.tickCount + 1 → s.inputs = [] → step s = .next (ticked s [])) ∧
        (∀ p rest, 20480 ≤ s.le.tickCount + 1 → s.inputs = p :: rest → step s = .next (ticked
          { s with
            inputs := rest
            cc := { s.cc with position := p.position.toNat, top := p.top, bottom := p.bottom,
                              settingClear := p.settingClear, driveReady := p.driveReady } }
          ((if p.top = s.cc.top ∧ p.bottom = s.cc.bottom then []
              else [.limitChange p.position p.top p.bottom]) ++
            (if p.settingClear = s.cc.settingClear then [] else [.settingLineChange p.settingClear]) ++
            if p.driveReady = s.cc.driveReady then [] else [.driveReadyChange p.driveReady]))))) ∧
    (s.cc.state.moving = true → ∀ m, s.cc.move = some m → reached s.clock m.nextSample = true →
      Instr.curtainSample (BitVec.ofNat 16 s.cc.position) s.cc.top s.cc.bottom s.cc.settingClear ∈ s.dueEvents)

/-- R206 with the reset values of R3, R25, R28, R38, R46, R60, R86, R104, R125, R142, R150, R163, R190 and R198. The
values that the rules leave to the end of reset stand here already (notes/assumptions/6.md). R46, R180, R198 and R199:
what RESET_END latches and reads. Rests on the model's choices of notes/assumptions/8.md, notes/assumptions/25.md. -/
def Obligations.ResetLeavesItsValues : Prop :=
  (∀ s : State, ∃ t, exec .powerOnReset s = .next t ∧ t.pending = s.pending ∧ t.inputs = s.inputs ∧ t.inReset = true ∧
     t.clock = 0 ∧ t.tab = Tables.default ∧ (∀ st : Station, t.paired[st] = none) ∧
     t.perf = { phase := .dark, act := 0, interval := 0, intervalEnd := none, houseOpen := none, iron := .none,
                ironDuration := none, alerts := 0, evacuated := false, deskLosses := 0, abandoned := 0 } ∧
     t.cc.lock = none ∧ t.cc.permit = none ∧ t.cc.move = none ∧ t.cc.log = [] ∧
     (∀ n : Fin 32, t.al.lines[n] =
       { state := .normal, last := none, present := none, candidate := none, run := 0, isolation := none }) ∧
     t.al.list = [] ∧ t.al.stage = .quiet ∧ t.al.knockEnd = none ∧ t.al.sounders = false ∧
     (∀ n : Fin 48, t.le.channels[n] =
       { primary := 4095, fade := none, selected := 4095, reload := 1024, high := 1024 }) ∧
     (∀ st : Station, t.le.cues[st] = none) ∧ t.le.cycle = 10 ∧ t.le.pendingCycle = none ∧
     t.os.evac = false ∧ t.os.fireLock = false ∧ t.os.deskLoss = false ∧ t.os.flick = 0 ∧
     (∀ n : Fin 48, t.os.selections[n] = { source := .primary, transition := none }) ∧
     t.os.sup.enabled = false ∧ t.os.sup.locked = false ∧
     t.le.counter = 0 ∧ t.le.tickCount = 0 ∧ t.le.fadeHalf = false ∧ (∀ n, t.dimmerOn n = true) ∧ t.le.forced = true ∧
     (∀ n : Fin 16, t.cu.circuits[n].holder = none) ∧ (∀ i : Fin 2, t.cu.generators[i].holder = none) ∧
     (∀ i : Fin 2, t.cu.channels[i].holder = none) ∧ t.cu.page = none ∧ t.cu.evacuation = none ∧
     t.cu.staff = none ∧ t.cu.queue = [] ∧ (∀ n : Fin 48, t.cu.flickOwner[n] = none) ∧
     t.dl.rx = .hunt ∧ t.dl.buffer = [] ∧ t.dl.slot = none ∧ t.dl.reports = [] ∧ t.dl.overrun = false ∧
     t.dl.overflow = 0 ∧ t.im.comm = .closed ∧
     t.im.inhibit = { drive := false, lighting := false, audio := false, sounders := false }) ∧
  (∀ (s : State) (lr : Fin 4) (img : Bool) (p : Half) (top bottom setting drive : Bool), s.inReset = true →
     exec (.resetEnd lr img p top bottom setting drive) s = .next { s with
       inReset := false
       cc := { s.cc with
         position := p.toNat, top, bottom, settingClear := setting, driveReady := drive
         state := if top && bottom then .fault else if top then .out else if bottom then .inn else .parked
         reason := if top && bottom then some .limitsBoth else none }
       im := { s.im with lr, img, starting := true, loadDue := if img then some (s.clock + 500#32) else none } })

/-- R180 and R206: from the start of reset until its end no command but the two of reset has an effect, and the
outputs stand as R44, R118, R125 and R156 say. Rests on the model's choices of notes/assumptions/4.md. -/
def Obligations.NothingHappensInReset : Prop :=
  ∀ s : State, s.inReset = true →
    (∀ i : Instr, i ≠ .powerOnReset → (∀ lr img p a b c d, i ≠ .resetEnd lr img p a b c d) → exec i s = .next s) ∧
    s.releaseOn = false ∧ s.raiseOn = false ∧ (∀ k, s.sounderOn k = false) ∧ (∀ n, s.dimmerOn n = true) ∧
    ∀ n, s.circuitCarries n = .nothing

/-! ## Desk Link -/

/-- R183: what the receiver does with a byte, in each of its states. R180 and R183: a byte without its stop bit is
dropped, and a frame that times out is discarded. Rests on the model's choices of notes/assumptions/30.md. -/
def Obligations.ReceiverTakesBytes : Prop :=
  (∀ (s : State) (b : Byte) (i : Instr), s.inReset = false →
     (i = .byteReceived b true ∨ i = .frameReceived b ∨ i = .lengthByteInvalid b) →
     (s.dl.rx = .hunt → b = 0xC3#8 →
       exec i s = .next { s with dl := { s.dl with rx := .length, n := 0, bytes := [] } }) ∧
     (s.dl.rx = .hunt → b ≠ 0xC3#8 → exec i s = .next s) ∧
     (s.dl.rx = .length → 4 ≤ b.toNat → b.toNat ≤ 240 →
       exec i s = .next { s with dl := { s.dl with rx := .body, n := b.toNat, bytes := [b] } }) ∧
     (s.dl.rx = .length → (b.toNat < 4 ∨ 240 < b.toNat) →
       exec i s = .next { s with
         dl := s.dl.hunt.addItem (.error { reason := .length, station := 0, tag := 0, count := 1 }) }) ∧
     (s.dl.rx = .body →
       exec i s = .next { s with dl := { s.dl with
         bytes := s.dl.bytes ++ [b], rx := if s.dl.n ≤ s.dl.bytes.length then .check else .body } }) ∧
     (s.dl.rx = .check → s.dl.bytes.length < s.dl.n + 2 →
       exec i s = .next { s with dl := { s.dl with bytes := s.dl.bytes ++ [b] } }) ∧
     (s.dl.rx = .check → s.dl.n + 2 ≤ s.dl.bytes.length →
       exec i s = .next { s with dl := s.dl.hunt.addItem (completedItem (s.dl.bytes ++ [b])) })) ∧
  (∀ s : State, s.inReset = false →
     (∀ b, exec (.byteReceived b false) s = .next s) ∧
     (s.dl.rx = .hunt → exec .frameTimeout s = .next s) ∧
     (s.dl.rx ≠ .hunt → exec .frameTimeout s = .next { s with
       dl := ({ s.dl with rx := .hunt, n := 0, bytes := [] }).addItem (.error
         { reason := .timeout, station := nibble (s.dl.bytes.getD 1 0), tag := s.dl.bytes.getD 2 0,
           count := s.dl.bytes.length }) }))

/-- R182: the CRC of a frame: formed bit by bit over the length byte and the bytes after it, most significant bit
first, from a register of FFFFh with the polynomial x^16 + x^12 + x^5 + 1, with no inversion. It stands in every frame
that is sent, high byte first, and is checked in every frame that is received. R181 to R184: from HUNT, the bytes of a
whole request frame leave the receiver in HUNT with the request in the receive buffer; with any other CRC they leave a
CRC frame-error item. -/
def Obligations.WholeFrameIsReceived : Prop :=
  (∀ l : List Byte, crc16 l = (l.flatMap fun b => (List.range 8).map fun k => b.getLsbD (7 - k)).foldl
     (fun (r : Half) (bit : Bool) =>
       (r <<< 1) ^^^ (if r.msb = bit then 0#16 else 1#16 <<< 12 ||| 1#16 <<< 5 ||| 1#16)) 0xFFFF#16) ∧
  crc16 [0x31, 0x32, 0x33, 0x34, 0x35, 0x36, 0x37, 0x38, 0x39] = 0x29B1#16 ∧
  (let framed := fun l : List Byte => ∃ body : List Byte,
     let c := crc16 (BitVec.ofNat 8 body.length :: body)
     l = 0xC3#8 :: BitVec.ofNat 8 body.length :: body ++ [c.extractLsb' 8 8, c.extractLsb' 0 8]
   (∀ (r : Reply) (part : Nat), framed (r.frame part)) ∧
   (∀ (marker : Bool) (stamp : Clock) (r : Report), framed (reportFrame marker stamp r)) ∧
   (∀ e : FrameError, framed e.frame) ∧
   ∀ (s t : State), exec .transmitStart s = .next t → t.dl.line ≠ s.dl.line → ∀ l ∈ t.dl.line, framed l) ∧
  (∀ (s : State) (body : List Byte) (high low : Byte), 4 ≤ body.length → body.length ≤ 240 →
     let checked := BitVec.ofNat 8 body.length :: body
     s.inReset = false → s.dl.rx = .check → s.dl.n = body.length → s.dl.bytes = checked ++ [high] →
     ∃ item, exec (.byteReceived low true) s = .next { s with dl := s.dl.hunt.addItem item } ∧
       ((∃ e, item = .error e ∧ e.reason = .crc) ↔ high ++ low ≠ crc16 checked)) ∧
  (∀ (d : Link) (h : Hdr) (code : Byte) (params : List Byte) (crc : Half), d.rx = .hunt → params.length ≤ 236 →
     let body := be1 h.station.val ++ [h.tag, code] ++ be1 params.length ++ params
     let checked := be1 body.length ++ body
     ((0xC3#8 :: checked ++ halfBytes crc).foldl Link.byte d) =
       if crc = crc16 checked then d.hunt.addItem (.request h code params)
       else d.hunt.addItem (.error
         { reason := .crc, station := h.station, tag := h.tag, count := params.length + 7 }))

/-- R197: every well-formed request is read back from its code and its parameter bytes. -/
def Obligations.RequestRoundTrip : Prop :=
  ∀ (i : Instr) (h : Hdr), headerOf i = some h → i.wellFormed = true →
    decodeRequest h (codeOf i) (encodeParams i) = .request i

/-- R184, R185 and R195: DL takes the oldest item: a frame error goes into the slot as its frame, a request is handled
as if it had arrived just then, and an unknown code is answered E_CODE. R185: a frame with a code that is not in the
table of R197 is answered E_CODE, during the image load too, and removes the station's paired record (R22); while the
link is not free it waits as any other. Rests on the model's choices of notes/assumptions/2.md. -/
def Obligations.BufferIsTakenInOrder : Prop :=
  (∀ s : State, s.inReset = false → s.dl.slot = none → s.dl.restarting = false →
     (∀ e rest, s.dl.buffer = .error e :: rest →
       exec .takeItem s = .next { s with dl := { s.dl with
         buffer := rest, slot := some { order := s.dl.nextOrder, what := .error e },
         nextOrder := s.dl.nextOrder + 1 } }) ∧
     (∀ i h, headerOf i = some h → i.wellFormed = true →
       s.dl.buffer = [.request h (codeOf i) (encodeParams i)] →
       exec .takeItem s = exec i { s with dl := { s.dl with buffer := [] } }) ∧
     (∀ h code params rest, s.dl.buffer = .request h code params :: rest →
       ∃ (t : State) (a : Answer), exec .takeItem s = .next t ∧ t.dl.buffer = rest ∧
         t.answers h code a.status a.data) ∧
     (∀ h code params rest, s.dl.buffer = .request h code params :: rest → code.toNat ∉ requestCodes →
       exec .takeItem s = .next
         ((({ s with dl := { s.dl with buffer := rest } }).unpaired h.station).replied h code .eCode [])) ∧
     (s.dl.buffer = [] → exec .takeItem s = .next s)) ∧
  (∀ (s : State) (h : Hdr) (code : Byte) (params : List Byte), s.inReset = false → code.toNat ∉ requestCodes →
     (s.linkFree = true → exec (.unknownRequestCode h code params) s =
       .next ((s.unpaired h.station).replied h code .eCode [])) ∧
     (s.linkFree = false → exec (.unknownRequestCode h code params) s =
       .next { s with dl := s.dl.addItem (.request h code params) }))

/-- R184, R185 and R194: a request that finds the link not free joins the receive buffer, the ninth is discarded and
counted, and one that finds the image being loaded is answered E_STARTING unless it is STATUS or DESCRIBE. Rests on
the model's choices of notes/assumptions/2.md. -/
def Obligations.RequestsWaitOrAreRefused : Prop :=
  ∀ (s : State) (i : Instr) (h : Hdr), headerOf i = some h → s.inReset = false →
    (s.linkFree = false → s.dl.buffer.length < 8 →
      exec i s = .next { s with dl := { s.dl with
        buffer := s.dl.buffer ++ [.request h (codeOf i) (encodeParams i)] } }) ∧
    (s.linkFree = false → 8 ≤ s.dl.buffer.length →
      exec i s = .next { s with dl := { s.dl with overflow := min 255 (s.dl.overflow + 1) } }) ∧
    (s.linkFree = true → s.im.starting = true → codeOf i ≠ 1#8 → codeOf i ≠ 2#8 →
      exec i s = .next ((s.unpaired h.station).replied h (codeOf i) .eStarting []))

/-- R13, R14 and R22: a request of a station that is not present changes nothing but that station's paired record, and
is answered E_ACCESS with the STATION check, or E_PARAM where its decoding fails. A request that is refused leaves
everything but used flags (R18), its station's paired record (R22) and the reply slot as it was. -/
def Obligations.RefusedRequestChangesNothing : Prop :=
  (∀ (s : State) (i : Instr) (h : Hdr), s.ready → headerOf i = some h → s.stationPresent h.station = false →
     exec i s = .next ((s.unpaired h.station).replied h (codeOf i) .eParam []) ∨
     exec i s = .next ((s.unpaired h.station).replied h (codeOf i) .eAccess [1, 0, 0, 0, 0, 0])) ∧
  (∀ (s : State) (i : Instr) (h : Hdr), s.ready → headerOf i = some h →
     ∃ (t : State) (a : Answer), exec i s = .next t ∧
       t.answers h (codeOf i) a.status a.data ∧
       (a.status.taken = false → ∃ u : Tables, u.clearUsed = s.tab.clearUsed ∧
         t = (({ s with tab := u }).unpaired h.station).replied h (codeOf i) a.status a.data))

/-- R186, R189, R190 and R194: the transmitter starts the oldest waiting frame, a reply part by part; reports wait
while the image is loaded, and none is sent after the reply of a RESTART (R195). Rests on the model's choices of
notes/assumptions/27.md. -/
def Obligations.TransmitStartsTheOldest : Prop :=
  ∀ s : State, s.inReset = false →
    (s.dl.slot = none → (s.dl.reports = [] ∨ s.im.starting = true ∨ s.dl.restarting = true) →
      exec .transmitStart s = .next s) ∧
    (∀ q rest, s.dl.slot = none → s.dl.reports = q :: rest → s.im.starting = false → s.dl.restarting = false →
      exec .transmitStart s = .next { s with dl := { s.dl with
        line := some (reportFrame s.dl.overrun q.stamp q.report), reports := rest, overrun := false } }) ∧
    (∀ x q rest, s.dl.slot = some x → x.begun = false → s.dl.reports = q :: rest → s.im.starting = false →
      q.order ≤ x.order →
      exec .transmitStart s = .next { s with dl := { s.dl with
        line := some (reportFrame s.dl.overrun q.stamp q.report), reports := rest, overrun := false } }) ∧
    (∀ x, s.dl.slot = some x →
      (x.begun = true ∨ s.im.starting = true ∨ ∀ q ∈ s.dl.reports.head?, x.order < q.order) →
      (∀ e, x.what = .error e →
        exec .transmitStart s = .next { s with dl := { s.dl with line := some e.frame, slot := none } }) ∧
      (∀ r part, x.what = .reply r part →
        exec .transmitStart s = .next { s with dl := { s.dl with
          line := some (r.frame part),
          slot := if part + 1 < r.parts then some { x with what := .reply r (part + 1) } else none } }))

/-! ## Authority Unit -/

/-- R192 and R193: STATUS and DESCRIBE are answered while the image is loaded too, and change nothing else; every byte
of the STATUS snapshot. Rests on the model's choices of notes/assumptions/17.md. -/
def Obligations.StatusAndDescribeReply : Prop :=
  ∀ (s : State) (h : Hdr), s.inReset = false → s.linkFree = true → s.stationPresent h.station = true →
    (∃ data, exec (.status h) s = .next ((s.unpaired h.station).replied h 0x01#8 .ok data) ∧ data.length = 54 ∧
      data.take 7 = clockBytes s.clock ++
        [BitVec.ofNat 8 s.perf.phase.ctorIdx, BitVec.ofNat 8 s.perf.act, BitVec.ofNat 8 s.perf.interval] ∧
      (let opt := fun (n : Nat) (x : Option (List Byte)) =>
        match x with | none => List.replicate (n + 1) (0 : Byte) | some l => 1 :: l
      sliceOf data 7 5 = opt 4 (s.perf.intervalEnd.map clockBytes) ∧
      sliceOf data 14 5 = opt 4 (s.al.knockEnd.map clockBytes) ∧
      sliceOf data 22 2 = opt 1 (s.cc.reason.map fun r => match r with
        | .limitsBoth => [0]
        | .flag x => [BitVec.ofNat 8 (x.ctorIdx + 1)]) ∧
      sliceOf data 24 3 =
        (if s.cc.lock.isSome then 1 else 0) :: opt 1 (s.cc.lock.map fun c => [BitVec.ofNat 8 c.ctorIdx]) ∧
      sliceOf data 27 6 = (if s.cc.permit.isSome then 1 else 0) :: opt 4 (s.cc.permit.map clockBytes) ∧
      sliceOf data 33 2 = opt 1 (s.cc.move.map fun m => [BitVec.ofNat 8 m.record.kind.ctorIdx]) ∧
      sliceOf data 35 3 = [if s.os.sup.enabled then 1 else 0, if s.os.sup.locked then 1 else 0,
        BitVec.ofNat 8 s.os.sup.window] ∧
      sliceOf data 38 2 = opt 1 (s.os.sup.station.map fun n => [BitVec.ofNat 8 n.val]) ∧
      sliceOf data 40 5 = opt 4 (s.os.sup.deadline.map clockBytes) ∧
      sliceOf data 45 1 = [if s.os.deskLoss then 1 else 0] ∧
      ∃ inhibits : Byte, sliceOf data 46 1 = [inhibits] ∧ (inhibits.getLsbD 0 = s.im.inhibit.drive) ∧
        (inhibits.getLsbD 1 = s.im.inhibit.lighting) ∧ (inhibits.getLsbD 2 = s.im.inhibit.audio) ∧
        (inhibits.getLsbD 3 = s.im.inhibit.sounders) ∧ inhibits.toNat < 16) ∧
      sliceOf data 12 2 = [BitVec.ofNat 8 s.al.stage.ctorIdx, BitVec.ofNat 8 s.al.list.length] ∧
      sliceOf data 19 3 = BitVec.ofNat 8 s.cc.state.ctorIdx :: be2 s.cc.position ∧
      sliceOf data 47 7 = [if s.im.valid then 0 else 1, BitVec.ofNat 8 s.im.comm.ctorIdx,
        if s.im.starting then 1 else 0, BitVec.ofNat 8 s.dl.reports.length, if s.dl.overrun then 1 else 0,
        BitVec.ofNat 8 s.dl.overflow, BitVec.ofNat 8 s.im.lr.val]) ∧
    exec (.describe h) s = .next ((s.unpaired h.station).replied h 0x02#8 .ok
      ([2, 108, 1, 25] ++ Config.capacities.flatMap fun x =>
        [BitVec.ofNat 8 x.1, BitVec.ofNat 8 (x.2 / 256), BitVec.ofNat 8 x.2]))

/-- R13 to R16 and R18, at READ_CHANNEL, with R140: the decoding, the six checks in their order, and what follows when
every one passes. -/
def Obligations.AccessCheckOrder : Prop :=
  ∀ (s : State) (h : Hdr) (raw : Half), s.ready →
    (raw.extractLsb' 10 5 ≠ 0 →
      exec (.readChannel h raw) s = .next ((s.unpaired h.station).replied h 0x44#8 .eParam [])) ∧
    ∀ x, decodeSelector raw = some x →
      (s.stationPresent h.station = false →
        exec (.readChannel h raw) s =
          .next ((s.unpaired h.station).replied h 0x44#8 .eAccess [1, 0, 0, 0, 0, 0])) ∧
      (s.stationPresent h.station = true →
        let deny := fun k : Byte => exec (.readChannel h raw) s =
          .next ((s.unpaired h.station).replied h 0x44#8 .eAccess
            [k, if x.isLocal then 1 else 0, BitVec.ofNat 8 x.index.val, 0, 0, 0])
        (x.isNull = true → deny 2) ∧
        (x.isNull = false → s.tab.beyond x = true → deny 3) ∧
        (x.isNull = false → s.tab.beyond x = false → s.tab.entry? h.station x = none → deny 4) ∧
        ∀ e, x.isNull = false → s.tab.beyond x = false → s.tab.entry? h.station x = some e →
          ((x.isLocal = true ∨ e.type ≠ .channel) → deny 5) ∧
          (x.isLocal = false → e.type = .channel →
            e.dpl.val < max (s.cpl h.station).val x.rpl.val → deny 6) ∧
          (x.isLocal = false → ∀ b, e.body = some (.channel b) →
            max (s.cpl h.station).val x.rpl.val ≤ e.dpl.val →
            exec (.readChannel h raw) s =
              .next (((s.markHouse x.index.val).unpaired h.station).replied h 0x44#8 .ok
                (s.channelBytes (Fin.ofNat 48 b.output)
                  (decide ((s.tab.channelEntry b.output).map Prod.fst = some x.index.val))))))

/-- R23 and R24: READ_OBJECT gives the header and the body, and READ_STATION the entry, with no used flag set. A
station that reads its own entry shows its paired record removed (notes/assumptions/10.md). Rests on the model's
choices of notes/assumptions/17.md. -/
def Obligations.TablesAreRead : Prop :=
  ∀ (s : State) (h : Hdr), s.ready →
    (∀ raw x e, s.passes h.station raw .any x → s.tab.entry? h.station x = some e →
      exec (.readObject h raw) s = .next ((s.unpaired h.station).replied h 0x0A#8 .ok
        ([BitVec.ofNat 8 e.type.code,
          BitVec.ofNat 8 ((if e.body.isSome then 128 else 0) + (if e.used then 64 else 0) + e.dpl.val)] ++
          (match e.body with | some b => b.bytes | none => [])))) ∧
    (∀ n : Byte, 15 < n.toNat →
      exec (.readStation h n) s = .next ((s.unpaired h.station).replied h 0x0B#8 .eParam [])) ∧
    (∀ n : Station, s.stationPresent h.station = true → n ≠ h.station → 1 < (s.cpl h.station).val →
      exec (.readStation h (BitVec.ofNat 8 n.val)) s =
        .next ((s.unpaired h.station).replied h 0x0B#8 .eAccess [6, 0, 0, 0, 0, 0])) ∧
    (∀ n : Station, s.stationPresent h.station = true → (n = h.station ∨ (s.cpl h.station).val ≤ 1) →
      exec (.readStation h (BitVec.ofNat 8 n.val)) s = .next ((s.unpaired h.station).replied h 0x0B#8 .ok
        ([BitVec.ofNat 8 n.val, if s.stationPresent n then 1 else 0, BitVec.ofNat 8 (s.cpl n).val] ++
          (match (s.unpaired h.station).paired[n] with
            | none => [0, 0, 0, 0]
            | some p => [1, BitVec.ofNat 8 p.action.ctorIdx] ++ be2 (tenthsLeft s.clock p.expiry)) ++
          (List.finRange 16).flatMap fun i : Fin 16 => s.tab.locals[n][i].header)))

/-- R19 and R20: an ALARM_ACK gate acts at its target level, whatever the station's own. R20, R62, R63 and R68: a
MANUAL_DROP gate is answered by the curtain's state, sets the lock and drops the curtain, or logs a blocked movement.
R20, R97, R99, R107, R113 and R115: a MANUAL_CALL gate whose zone passes its check adds one entry, which goes to
EVACUATE, once for each gate and up to 16 in all. Each with the reports that it produces. Rests on the model's choices
of notes/assumptions/7.md, notes/assumptions/9.md, notes/assumptions/21.md, notes/assumptions/22.md. -/
def Obligations.GatesAct : Prop :=
  (∀ (s : State) (h : Hdr) (raw : Half) (x : Selector) (g : GateBody), s.ready →
     s.passes h.station raw (.house .gate) x → s.tab.gateAt x.index.val = some g → g.action = .alarmAck →
     (1 < g.target.val → exec (.useGate h raw) s =
       .next ((s.unpaired h.station).replied h 0x08#8 .eAccess [6, 0, 0, 1, 1, 0])) ∧
     (g.target.val ≤ 1 → s.al.stage ≠ .alert → exec (.useGate h raw) s =
       .next (((s.markHouse x.index.val).unpaired h.station).replied h 0x08#8 .eStage [])) ∧
     (g.target.val ≤ 1 → s.al.stage = .alert → ∃ t, exec (.useGate h raw) s = .next t ∧
       t.al = { s.al with
         stage := .investigate, enteredAt := s.clock, ackDue := none,
         invDue := some (s.clock + secondsTicks s.tab.params.tInv),
         ackBy := some { station := h.station, gate := some x.index.val }, sounders := false } ∧
       t.tab = (s.markHouse x.index.val).tab ∧ t.notices = s.notices ++ [.staffCallStop, .stageChangeNotice] ∧
       t.answers h 0x08#8 .ok (clockBytes (s.clock + secondsTicks s.tab.params.tInv)) ∧
       s.produces t [.stage { previous := .alert, stage := .investigate, cause := .alarmAck, station := h.station,
                              entry := none, gate := some x.index.val, count := s.al.list.length,
                              first := s.al.list.head?, due := some (s.clock + secondsTicks s.tab.params.tInv),
                              knockEnd := s.al.knockEnd, sounders := false, fireSent := false }] ∧
       t = { s with al := t.al, tab := t.tab, notices := t.notices, paired := s.paired.set h.station none
                    dl := s.dl.sent t.dl })) ∧
  (∀ (s : State) (h : Hdr) (raw : Half) (x : Selector) (g : GateBody), s.ready →
     s.passes h.station raw (.house .gate) x → s.tab.gateAt x.index.val = some g → g.action = .manualDrop →
     (∀ i, s.tab.gateCurtainFault g.target = some i → exec (.useGate h raw) s =
       .next ((s.unpaired h.station).replied h 0x08#8 .eAccess [6, 0, BitVec.ofNat 8 i, 1, 1, 0])) ∧
     (s.tab.gateCurtainFault g.target = none → ∃ t, exec (.useGate h raw) s = .next t ∧ s.triggered t .manual ∧
       (s.cc.state = .inn → t.answers h 0x08#8 .ok [2]) ∧
       (s.cc.state ≠ .inn → s.im.inhibit.drive = true → t.answers h 0x08#8 .wPartial [3]) ∧
       (s.cc.state = .lowering → s.im.inhibit.drive = false → s.fireMove = true → t.answers h 0x08#8 .ok [1]) ∧
       (s.cc.state ≠ .inn → s.im.inhibit.drive = false → (s.cc.state ≠ .lowering ∨ s.fireMove = false) →
         t.answers h 0x08#8 .ok [0]) ∧
       t.cc.lock = some (s.cc.lock.getD .manual) ∧ t.cc.permit = none ∧
       (s.im.inhibit.drive = true → t.cc.state ≠ .raising ∧ t.cc.state ≠ .held) ∧
       (s.im.inhibit.drive = false → s.cc.bottom = false → s.cc.state ≠ .inn → t.cc.state = .lowering) ∧
       (s.im.inhibit.drive = false → s.cc.bottom = true → s.cc.state ≠ .inn → s.cc.state ≠ .lowering →
         t.cc.state = .inn) ∧
       t = { s with cc := t.cc, tab := (s.markHouse x.index.val).markCurtain.tab, notices := t.notices
                    paired := s.paired.set h.station none, dl := s.dl.sent t.dl })) ∧
  (∀ (s : State) (h : Hdr) (raw : Half) (x : Selector) (g : GateBody) (zone : Nat), s.ready →
     s.passes h.station raw (.house .gate) x → s.tab.gateAt x.index.val = some g → g.action = .manualCall →
     g.zone = some zone →
     (∀ k : Byte,
       (zone = 0 ∧ k = 2 ∨ zone ≠ 0 ∧ s.tab.limit ≤ zone ∧ k = 3 ∨
         zone ≠ 0 ∧ zone < s.tab.limit ∧ (s.tab.house? zone = none ∧ k = 4 ∨ ∃ e, s.tab.house? zone = some e ∧
           (e.type ≠ .zone ∧ k = 5 ∨ e.type = .zone ∧ e.dpl.val < g.target.val ∧ k = 6))) →
       exec (.useGate h raw) s =
         .next ((s.unpaired h.station).replied h 0x08#8 .eAccess [k, 0, BitVec.ofNat 8 zone, 1, 1, 0])) ∧
     (s.tab.gateZoneFault g.target zone = none →
     (∀ p, s.gatePosition x.index.val = some p → exec (.useGate h raw) s =
       .next ((((s.markHouse x.index.val).markHouse zone).unpaired h.station).replied h 0x08#8 .ok
         [0, BitVec.ofNat 8 p])) ∧
     (s.gatePosition x.index.val = none → 16 ≤ s.gateEntries → exec (.useGate h raw) s =
       .next ((((s.markHouse x.index.val).markHouse zone).unpaired h.station).replied h 0x08#8 .eFull [])) ∧
     (s.gatePosition x.index.val = none → s.gateEntries < 16 → ∃ t, exec (.useGate h raw) s = .next t ∧
       t.al.list = s.al.list ++ [{ origin := .gate x.index.val, zone, time := s.clock, staged := false }] ∧
       t.al.stage = .evacuate ∧ t.al.lines = s.al.lines ∧
       (s.al.stage ≠ .evacuate → s.evacuates t (s.listTriggers || s.tab.zoneTrigger zone) []
         { cause := if s.al.stage = .quiet then .firstEntry else .furtherEntry, station := h.station
           entry := some (s.al.list.length + 1, .gate x.index.val), gate := none }) ∧
       (s.al.stage = .evacuate → s.produces t [] ∧ t.al = { s.al with list := t.al.list } ∧ t.os = s.os ∧
         t.le = s.le ∧ t.notices = s.notices ++ if s.tab.zoneTrigger zone then [.fireTrigger] else []) ∧
       t.answers h 0x08#8 .ok [1, BitVec.ofNat 8 (s.al.list.length + 1)] ∧
       (s.al.stage ≠ .quiet → t.cc = s.cc) ∧
       t = { s with al := t.al, os := t.os, le := t.le, cc := t.cc, notices := t.notices
                    tab := ((s.markHouse x.index.val).markHouse zone).tab
                    paired := s.paired.set h.station none, dl := s.dl.sent t.dl })))

/-- R21 and R22: RESET_ENABLE stores the paired record for 10 s, and its expiry removes it. R22, R195 and R206:
RESTART is taken after its enable, in DARK, QUIET and at rest, and else refused by the first test that fails; the
reset follows the reply, and until then nothing is taken from the buffer. Rests on the model's choices of
notes/assumptions/5.md, notes/assumptions/6.md. -/
def Obligations.PairedRequestsAreEnabled : Prop :=
  (∀ (s : State) (h : Hdr),
     (∀ a most k, (a = 0#8 ∧ most = 1 ∧ k = PairedAction.alarm) ∨ (a = 1#8 ∧ most = 0 ∧ k = PairedAction.restart) →
       s.ready →
       (s.admits h.station most → exec (.resetEnable h a) s =
         .next (State.replied h 0x09#8 .ok []
           { s with paired := s.paired.set h.station (some { action := k, expiry := s.clock + 1000#32 }) })) ∧
       (s.stationPresent h.station = true → most < (s.cpl h.station).val → exec (.resetEnable h a) s =
         .next ((s.unpaired h.station).replied h 0x09#8 .eAccess [6, 0, 0, 0, 0, 0]))) ∧
     (∀ a : Byte, 1 < a.toNat → s.ready →
       exec (.resetEnable h a) s = .next ((s.unpaired h.station).replied h 0x09#8 .eParam [])) ∧
     (∀ st p, s.inReset = false → s.paired[st] = some p →
       exec (.pairedExpiry st) s = .next (if reached s.clock p.expiry then s.unpaired st else s))) ∧
  (∀ (s : State) (h : Hdr),
     (s.ready → s.admits h.station 0 → ∀ p, s.paired[h.station] = some p → p.action = .restart →
       reached s.clock p.expiry = false → s.im.busy = false → s.perf.phase = .dark → s.al.stage = .quiet →
       s.cc.state.moving = false →
       exec (.restart h) s = .next ((({ s with dl := { s.dl with restarting := true } }).unpaired h.station).replied h
         0x68#8 .ok [])) ∧
     (s.ready → s.admits h.station 0 → (∀ p, s.paired[h.station] = some p → p.action ≠ .restart) →
       exec (.restart h) s = .next ((s.unpaired h.station).replied h 0x68#8 .eSequence [])) ∧
     (let refusal := fun x data => exec (.restart h) s = .next ((s.unpaired h.station).replied h 0x68#8 x data)
      s.ready →
       (s.stationPresent h.station = true → 0 < (s.cpl h.station).val → refusal .eAccess [6, 0, 0, 0, 0, 0]) ∧
       ∀ p, s.admits h.station 0 → s.paired[h.station] = some p → p.action = .restart →
         (reached s.clock p.expiry = true → s.clock ≠ p.expiry → refusal .eSequence []) ∧
         (reached s.clock p.expiry = false →
           (s.im.busy = true → refusal .eBusy []) ∧
           (s.im.busy = false → s.perf.phase ≠ .dark → refusal .ePhase []) ∧
           (s.im.busy = false → s.perf.phase = .dark → s.al.stage ≠ .quiet → refusal .eStage []) ∧
           (s.im.busy = false → s.perf.phase = .dark → s.al.stage = .quiet → s.cc.state.moving = true →
             refusal .eMotion []))) ∧
     (s.inReset = false → s.dl.restarting = true → s.dl.slot = none →
       exec .restartReset s = .next { State.reset with pending := s.pending, inputs := s.inputs }) ∧
     (s.inReset = false → (s.dl.restarting = false ∨ s.dl.slot.isSome = true) → exec .restartReset s = .next s) ∧
     (s.inReset = false → s.dl.restarting = true → exec .takeItem s = .next s))

/-! ## Show Sequencer -/

/-- R27: SET_CLOCK sets the clock and moves every due time that stands by the difference. Rests on the model's choices
of notes/assumptions/26.md. -/
def Obligations.SetClockMovesDueTimes : Prop :=
  ∀ (s : State) (h : Hdr) (v : Clock), s.ready → s.admits h.station 1 →
    (s.perf.phase ≠ .dark →
      exec (.setClock h v) s = .next ((s.unpaired h.station).replied h 0x10#8 .ePhase [])) ∧
    (s.perf.phase = .dark → s.cu.queue ≠ [] →
      exec (.setClock h v) s = .next ((s.unpaired h.station).replied h 0x10#8 .eFull [])) ∧
    (s.perf.phase = .dark → s.cu.queue = [] → s.os.sup.enabled = true →
      exec (.setClock h v) s = .next ((s.unpaired h.station).replied h 0x10#8 .eLocked [])) ∧
    (s.perf.phase = .dark → s.cu.queue = [] → s.os.sup.enabled = false →
      let move := fun d : Option Clock => d.map fun x => x + (v - s.clock)
      ∃ t, exec (.setClock h v) s = .next t ∧ t.clock = v ∧
        t.cc = { s.cc with
          permit := move s.cc.permit, heldExpiry := move s.cc.heldExpiry
          move := s.cc.move.map fun m => { m with nextSample := m.nextSample + (v - s.clock) } } ∧
        t.al = { s.al with
          lines := t.al.lines, ackDue := move s.al.ackDue, invDue := move s.al.invDue
          knockEnd := move s.al.knockEnd } ∧
        (∀ n : Fin 32, ∀ x, s.al.lines[n].isolation = some x →
          t.al.lines[n] = { s.al.lines[n] with isolation := some { x with stop := move x.stop } }) ∧
        (∀ n : Fin 32, s.al.lines[n].isolation = none → t.al.lines[n] = s.al.lines[n]) ∧
        (∀ st : Station, st ≠ h.station → t.paired[st] =
          s.paired[st].map fun p => { p with expiry := p.expiry + (v - s.clock) }) ∧
        t.paired[h.station] = none ∧
        t.perf = { s.perf with intervalEnd := move s.perf.intervalEnd } ∧
        t.os = { s.os with sup := { s.os.sup with deadline := move s.os.sup.deadline } } ∧
        (∀ i : Fin 2, t.cu.channels[i] = { s.cu.channels[i] with limit := move s.cu.channels[i].limit }) ∧
        t.cu.page = s.cu.page.map (fun p => { p with limit := p.limit + (v - s.clock) }) ∧
        t.cu.staff = s.cu.staff.map (fun x => { x with repeatDue := move x.repeatDue }) ∧
        t.cu = { s.cu with page := t.cu.page, staff := t.cu.staff, channels := t.cu.channels } ∧
        t.im = { s.im with work := s.im.work.map (fun w => { w with due := w.due + (v - s.clock) })
                           loadDue := move s.im.loadDue } ∧
        t.answers h 0x10#8 .ok (clockBytes s.clock ++ clockBytes v) ∧ s.produces t [] ∧
        t = { s with clock := v, cc := t.cc, al := t.al, paired := t.paired, perf := t.perf, os := t.os, cu := t.cu
                     im := t.im, dl := s.dl.sent t.dl })

/-- R13 and R29: every phase request is refused above level 1, and while commissioning is not closed. R29, R30, R31
and R37: PREPARE, OPEN_HOUSE and GO_DARK, with the tests that each makes in its order. R32 and R36: what BEGIN_ACT and
CLOSE_HOUSE are refused for. Rests on the model's choices of notes/assumptions/7.md. -/
def Obligations.HousePhases : Prop :=
  (∀ (s : State) (h : Hdr) (minutes : Byte) (i : Instr), s.ready →
     i ∈ [.prepare h, .openHouse h, .beginAct h, .beginInterval h minutes 0, .extendInterval h minutes, .closeHouse h,
       .goDark h] →
     (s.stationPresent h.station = true → 1 < (s.cpl h.station).val →
       exec i s = .next ((s.unpaired h.station).replied h (codeOf i) .eAccess [6, 0, 0, 0, 0, 0])) ∧
     (s.admits h.station 1 → s.im.comm ≠ .closed →
       exec i s = .next ((s.unpaired h.station).replied h (codeOf i) .eCommission []))) ∧
  (∀ (s : State) (h : Hdr), s.ready → s.admits h.station 1 → s.im.comm = .closed →
     let reply := fun (code : Byte) (x : Status) (data : List Byte) (s : State) =>
       Host.Outcome.next (φ := Fault) (ρ := Refusal) ((s.unpaired h.station).replied h code x data)
     let enter := fun (code : Nat) (p : Performance) (s1 : State) =>
       State.addReport (.phase s.perf.phase p.phase (.request code) h.station p.act p.interval p.intervalEnd)
         { s1 with perf := p, notices := s1.notices ++ [.phaseChangeNotice] }
     (s.perf.phase ≠ .dark → exec (.prepare h) s = reply 0x11 .ePhase [] s) ∧
     (s.perf.phase = .dark → exec (.prepare h) s =
       reply 0x11 .ok [1, 0, 0] (enter 0x11 (.cleared .prepare) { s with tab := s.tab.clearUsed })) ∧
     (s.perf.phase ≠ .prepare → exec (.openHouse h) s = reply 0x12 .ePhase [] s) ∧
     (s.perf.phase = .prepare → s.al.stage ≠ .quiet → exec (.openHouse h) s = reply 0x12 .eStage [] s) ∧
     (s.perf.phase = .prepare → s.al.stage = .quiet → s.im.inhibit.any = true →
       exec (.openHouse h) s = reply 0x12 .eInhibit [] s) ∧
     (s.perf.phase = .prepare → s.al.stage = .quiet → s.im.inhibit.any = false → s.al.indefinite = true →
       exec (.openHouse h) s = reply 0x12 .eStage [] s) ∧
     (s.perf.phase = .prepare → s.al.stage = .quiet → s.im.inhibit.any = false → s.al.indefinite = false →
       exec (.openHouse h) s = reply 0x12 .ok
         [2, BitVec.ofNat 8 s.perf.act, BitVec.ofNat 8 s.perf.interval]
         (enter 0x12 { s.perf with phase := .houseOpen, houseOpen := some s.clock } s)) ∧
     (s.perf.phase ≠ .showDown → s.perf.phase ≠ .prepare → exec (.goDark h) s = reply 0x17 .ePhase [] s) ∧
     ((s.perf.phase = .showDown ∨ s.perf.phase = .prepare) → s.al.stage ≠ .quiet →
       exec (.goDark h) s = reply 0x17 .eStage [] s) ∧
     ((s.perf.phase = .showDown ∨ s.perf.phase = .prepare) → s.al.stage = .quiet →
       exec (.goDark h) s = reply 0x17 .ok [0, 0, 0]
         (enter 0x17 (.cleared .dark) (s.addReport (.summary s.perf (decide (s.perf.iron ≠ .done)))))) ∧
     (s.perf.phase ≠ .houseOpen → s.perf.phase ≠ .interval → exec (.beginAct h) s = reply 0x13 .ePhase [] s) ∧
     ((s.perf.phase = .houseOpen ∨ s.perf.phase = .interval) → s.al.stage ≠ .quiet →
       exec (.beginAct h) s = reply 0x13 .eStage [] s) ∧
     ((s.perf.phase = .houseOpen ∨ s.perf.phase = .interval) → s.al.stage = .quiet → s.cc.state = .out →
       9 ≤ s.perf.act → exec (.beginAct h) s = reply 0x13 .eFull [] s) ∧
     (s.perf.phase ≠ .houseOpen → s.perf.phase ≠ .act → s.perf.phase ≠ .interval →
       exec (.closeHouse h) s = reply 0x16 .ePhase [] s))

/-- R32 and R36: BEGIN_ACT and CLOSE_HOUSE cancel every script call that has not started, with a CALL report for each
(R173, R178), and CLOSE_HOUSE ends every timed isolation with its reports (R91, R96). Rests on the model's choices of
notes/assumptions/19.md. -/
def Obligations.ActAndCloseCancelScripts : Prop :=
  ∀ (s : State) (h : Hdr), s.ready → s.admits h.station 1 → s.im.comm = .closed →
    let cancelled := fun why : CallReason =>
      (s.cu.queue.filter Call.unstartedScript).map fun c => s.cu.ended c .cancelled (some why)
    ((s.perf.phase = .houseOpen ∨ s.perf.phase = .interval) → s.al.stage = .quiet → s.cc.state = .out →
      s.perf.act < 9 → ∃ t, exec (.beginAct h) s = .next t ∧
        t.perf = { s.perf with phase := .act, act := s.perf.act + 1, intervalEnd := none } ∧ t.watch = false ∧
        (∀ c ∈ t.cu.queue, c.unstartedScript = false) ∧
        (∀ c ∈ s.cu.queue, c.unstartedScript = false → c.state ≠ .waiting →
          (∀ d ∈ s.cu.queue, d.id = c.id → d = c) → c ∈ t.cu.queue) ∧
        ((s.cu.queue.map Call.id).Nodup → s.scansBetween t (cancelled .beginAct)
          [.phase s.perf.phase .act (.request 0x13) h.station (s.perf.act + 1) s.perf.interval none]) ∧
        t = { s with perf := t.perf, watch := false, cu := t.cu, notices := t.notices
                     paired := s.paired.set h.station none, dl := s.dl.sent t.dl } ∧
        t.answers h 0x13#8 .ok [3, BitVec.ofNat 8 (s.perf.act + 1), BitVec.ofNat 8 s.perf.interval]) ∧
    ((s.perf.phase = .houseOpen ∨ s.perf.phase = .interval) → s.al.stage = .quiet → s.cc.state ≠ .out →
      exec (.beginAct h) s = .next ((s.unpaired h.station).replied h 0x13#8 .eMotion [])) ∧
    ((s.perf.phase = .houseOpen ∨ s.perf.phase = .act ∨ s.perf.phase = .interval) →
      ∃ t, exec (.closeHouse h) s = .next t ∧
        t.perf = { s.perf with phase := .showDown, intervalEnd := none } ∧ t.watch = false ∧
        (∀ c ∈ t.cu.queue, c.unstartedScript = false) ∧
        (∀ n : Fin 32, ∀ x, s.al.lines[n].isolation = some x → x.kind = .timed →
          t.al.lines[n] = { s.al.lines[n] with
            state := .normal, present := none, candidate := none, run := 0, isolation := none }) ∧
        (∀ n : Fin 32, (∀ x, s.al.lines[n].isolation = some x → x.kind ≠ .timed) → t.al.lines[n] = s.al.lines[n]) ∧
        (∀ c ∈ s.cu.queue, c.unstartedScript = false → c.state ≠ .waiting →
          (∀ d ∈ s.cu.queue, d.id = c.id → d = c) → c ∈ t.cu.queue) ∧
        ((s.cu.queue.map Call.id).Nodup → s.scansBetween t (cancelled .closeHouse)
          (((List.finRange 32).flatMap fun n : Fin 32 => match s.al.lines[n].isolation with
            | none => []
            | some x => if x.kind = .timed then
                [.isolation { line := n.val, entry := ((s.lineEntry n).map Prod.fst).getD 0, isolation := x,
                              cause := .closeHouse },
                 .line { line := n.val, entry := ((s.lineEntry n).map Prod.fst).getD 0
                         zone := ((s.lineEntry n).map fun e => e.2.zone).getD 0, previous := .isolated, state := .normal
                         cause := .closeHouse, last := s.al.lines[n].last }]
              else []) ++
            [.phase s.perf.phase .showDown (.request 0x16) h.station s.perf.act s.perf.interval none])) ∧
        t = { s with perf := t.perf, watch := false, cu := t.cu, al := { s.al with lines := t.al.lines }
                     notices := t.notices, paired := s.paired.set h.station none, dl := s.dl.sent t.dl } ∧
        t.answers h 0x16#8 .ok [5, BitVec.ofNat 8 s.perf.act, BitVec.ofNat 8 s.perf.interval])

/-- R33, R35, R176 and R177: an interval begins with its script placed whole or not at all, and an extension moves its
end and its calls by one shift; a WAITING call whose new due time is not reached is QUEUED again. R29: each is refused
under its tests. Rests on the model's choices of notes/assumptions/7.md, notes/assumptions/17.md,
notes/assumptions/28.md. -/
def Obligations.IntervalBeginsAndExtends : Prop :=
  (∀ (s : State) (h : Hdr) (minutes : Byte), s.ready → s.admits h.station 1 →
     let stop := s.clock + BitVec.ofNat 32 (max 1 (min 60 minutes.toNat) * 6000)
     let p := { s.perf with phase := .interval, interval := s.perf.interval + 1, intervalEnd := some stop }
     let begun := fun u : State => State.addReport
       (.phase .act .interval (.request 0x14) h.station p.act p.interval (some stop))
       { u with perf := p, watch := true, notices := s.notices ++ [.phaseChangeNotice] }
     let reply := fun (x : Status) (result : List Byte) (u : State) => State.replied h 0x14#8 x
       ([4, BitVec.ofNat 8 p.act, BitVec.ofNat 8 p.interval] ++ result ++ clockBytes stop) (u.unpaired h.station)
     (s.im.comm = .closed →
       let refusal := fun c => exec (.beginInterval h minutes 0#16) s =
         .next ((s.unpaired h.station).replied h 0x14#8 c [])
       (s.perf.phase ≠ .act → refusal .ePhase) ∧
       (s.perf.phase = .act → s.al.stage ≠ .quiet → refusal .eStage) ∧
       (s.perf.phase = .act → s.al.stage = .quiet → 8 ≤ s.perf.interval → refusal .eFull) ∧
       (s.perf.phase = .act → s.al.stage = .quiet → s.perf.interval < 8 →
         exec (.beginInterval h minutes 0#16) s = .next (reply .ok [0] (begun s)))) ∧
     ∀ raw x, s.passes h.station raw (.inLocal .script) x →
       let steps := s.tab.scriptAt h.station x.index.val
       let marked := s.markUsed h.station x
       let refusal := fun c => exec (.beginInterval h minutes raw) s =
         .next ((marked.unpaired h.station).replied h 0x14#8 c [])
       (s.im.comm ≠ .closed → refusal .eCommission) ∧
       (s.im.comm = .closed → s.perf.phase ≠ .act → refusal .ePhase) ∧
       (s.im.comm = .closed → s.perf.phase = .act → s.al.stage ≠ .quiet → refusal .eStage) ∧
       (s.im.comm = .closed → s.perf.phase = .act → s.al.stage = .quiet → 8 ≤ s.perf.interval → refusal .eFull) ∧
       (s.im.comm = .closed → s.perf.phase = .act → s.al.stage = .quiet → s.perf.interval < 8 →
         (32 < s.cu.queue.length + steps.length →
           exec (.beginInterval h minutes raw) s = .next (reply .wPartial [2] (begun marked))) ∧
         (∀ f, s.cu.queue.length + steps.length ≤ 32 →
           s.tab.innerFault h.station (s.cpl h.station) (.house .zone) (scriptInner steps) = some f →
           exec (.beginInterval h minutes raw) s = .next (reply .wPartial (3 :: f.bytes) (begun marked))) ∧
         (s.cu.queue.length + steps.length ≤ 32 → s.cu.nextEntry + steps.length ≤ 4294967296 →
           s.tab.innerFault h.station (s.cpl h.station) (.house .zone) (scriptInner steps) = none →
           ∃ t, exec (.beginInterval h minutes raw) s = .next t ∧
             t.answers h 0x14#8 .ok ([4, BitVec.ofNat 8 p.act, BitVec.ofNat 8 p.interval] ++
               [1, BitVec.ofNat 8 steps.length] ++ clockBytes stop) ∧
             t.cu.queue.length = s.cu.queue.length + steps.length ∧
             (∀ c ∈ s.cu.queue, c ∈ t.cu.queue) ∧ ((s.cu.queue.map Call.id).Nodup → (t.cu.queue.map Call.id).Nodup) ∧
             (∀ (k : Nat) (step : ScriptStep), steps[k]? = some step →
               let due := stop - BitVec.ofNat 32 (step.offset * 100)
               ∃ c ∈ t.cu.queue, c = {
                 id := c.id, owner := h.station, origin := .script (s.perf.interval + 1)
                 entryNo := s.cu.nextEntry + k, due := if reached s.clock due then s.clock else due
                 kind := step.kind, zones := step.zones.map fun z => z.index.val
                 repeats := step.repeats, state := .queued, source := none, granted := 0, missed := 0
                 done := 0, pattern := [], playback := .idle }) ∧
             t.cu = { s.cu with queue := t.cu.queue, nextId := t.cu.nextId,
                                nextEntry := s.cu.nextEntry + steps.length } ∧
             s.produces t [.phase .act .interval (.request 0x14) h.station p.act p.interval (some stop)] ∧
             t = { s with perf := p, watch := true, cu := t.cu, notices := s.notices ++ [.phaseChangeNotice]
                          tab := (marked.markAll h.station ((scriptInner steps).map Prod.fst)).tab
                          paired := s.paired.set h.station none, dl := s.dl.sent t.dl }))) ∧
  (∀ (s : State) (h : Hdr) (minutes : Byte), s.ready → s.admits h.station 1 → s.im.comm = .closed →
    (s.perf.phase ≠ .interval → exec (.extendInterval h minutes) s =
      .next ((s.unpaired h.station).replied h 0x15#8 .ePhase [])) ∧
    (∀ stop, s.perf.phase = .interval → s.perf.intervalEnd = some stop →
      ∃ (t : State) (e : Clock), exec (.extendInterval h minutes) s = .next t ∧
        t.perf = { s.perf with intervalEnd := some e } ∧ t.watch = true ∧
        (let far := stop + BitVec.ofNat 32 (max 1 (min 30 minutes.toNat) * 6000)
        (e = far ∧ (reached s.clock far = true ∨ (far - s.clock).toNat ≤ 8640000)) ∨
          (e = s.clock + 8640000#32 ∧ reached s.clock far = false ∧ 8640000 < (far - s.clock).toNat)) ∧
        t.cu.queue.length = s.cu.queue.length ∧
        (∀ c ∈ s.cu.queue, ((c.origin = .script s.perf.interval ∧ c.state ≠ .playing) →
            { c with
              due := c.due + (e - stop)
              state := if c.state = .waiting ∧ reached s.clock (c.due + (e - stop)) = false then .queued
                else c.state } ∈ t.cu.queue) ∧
          (¬(c.origin = .script s.perf.interval ∧ c.state ≠ .playing) → c ∈ t.cu.queue)) ∧
        s.produces t [] ∧
        t = { s with perf := t.perf, watch := true, cu := t.cu, paired := s.paired.set h.station none
                     dl := s.dl.sent t.dl } ∧
        t.answers h 0x15#8 .ok ([4, BitVec.ofNat 8 s.perf.act, BitVec.ofNat 8 s.perf.interval] ++ clockBytes e ++
          clockBytes (e - stop))))

/-- R34, R39, R40 and R41: what the sequencer does with the interval end and with the notices of other blocks. Rests
on the model's choices of notes/assumptions/5.md, notes/assumptions/7.md. -/
def Obligations.SequencerTakesNotices : Prop :=
  ∀ s : State, s.inReset = false →
    (s.watch = true → ∀ d, s.perf.intervalEnd = some d → reached s.clock d = true →
      exec .intervalDue s = .next (State.addReport
        (.phase s.perf.phase s.perf.phase .intervalDue 0 s.perf.act s.perf.interval (some d))
        { s with watch := false })) ∧
    (s.watch = false → exec .intervalDue s = .next s) ∧
    exec .alertNotice s = .next { s with
      notices := s.notices.erase .alertNotice, perf := { s.perf with alerts := min 65535 (s.perf.alerts + 1) } } ∧
    exec .evacuatedNotice s = .next { s with
      notices := s.notices.erase .evacuatedNotice, perf := { s.perf with evacuated := true } } ∧
    exec .deskLossNotice s = .next { s with
      notices := s.notices.erase .deskLossNotice
      perf := { s.perf with deskLosses := min 65535 (s.perf.deskLosses + 1) } } ∧
    exec .callAbandonedNotice s = .next { s with
      notices := s.notices.erase .callAbandonedNotice
      perf := { s.perf with abandoned := min 65535 (s.perf.abandoned + 1) } } ∧
    ∀ k o held d l, exec (.movementNotice k o held d l) s = .next { s with
      notices := s.notices.erase (.movementNotice k o held d l)
      perf := (
        let shown := s.perf.phase = .houseOpen ∨ s.perf.phase = .interval
        if s.perf.iron = .done then s.perf
        else if s.perf.iron = .none then
          if k = .testLower ∧ o = .complete ∧ held = false ∧ d ≤ l ∧ shown then
            { s.perf with iron := .lowered, ironDuration := some d }
          else s.perf
        else if k = .raise ∧ o = .complete ∧ shown then { s.perf with iron := .done }
        else { s.perf with iron := .none, ironDuration := none }) }

/-! ## Curtain Controller -/

/-- R51, R70 and R82: LOWER makes its tests in order and starts a test lowering, which completes at sample 0 when
BOTTOM is already made. R52: PERMIT_RAISE and the end of its permit. R53: RAISE makes its tests in order, uses up the
permit and starts a raise. R49 and R68: the reports of each. Rests on the model's choices of notes/assumptions/5.md,
notes/assumptions/7.md, notes/assumptions/9.md, notes/assumptions/22.md. -/
def Obligations.LowerAndRaiseStart : Prop :=
  (∀ (s : State) (h : Hdr) (raw : Half) (x : Selector), s.ready → s.passes h.station raw (.house .curtain) x →
     let marked := (s.markUsed h.station x).unpaired h.station
     let rest := s.cc.state = .out ∨ s.cc.state = .parked
     ((¬rest ∨ s.cc.driveReady = false ∨ s.cc.settingClear = false) →
       exec (.lower h raw) s = .next (marked.replied h 0x20#8 .eMotion [])) ∧
     (rest → s.cc.driveReady = true → s.cc.settingClear = true → s.im.inhibit.drive = true →
       exec (.lower h raw) s = .next (marked.replied h 0x20#8 .eInhibit [])) ∧
     (rest → s.cc.driveReady = true → s.cc.settingClear = true → s.im.inhibit.drive = false → s.cc.bottom = false →
       exec (.lower h raw) s = .next (State.replied h 0x20#8 .ok (clockBytes s.clock ++ be2 s.cc.position)
         (State.addReport
           (.curtain { previous := s.cc.state, state := .lowering, cause := .lower, record := some .testLower,
                       position := s.cc.position, lock := s.cc.lock, permit := s.cc.permit, reason := none })
           { marked with cc := { s.cc with
               state := .lowering, reason := none,
               move := some (.fresh .testLower s.tab.curtainCopy s.clock s.cc.position) } }))) ∧
     (rest → s.cc.driveReady = true → s.cc.settingClear = true → s.im.inhibit.drive = false → s.cc.bottom = true →
       let copy := s.tab.curtainCopy
       let mismatch := copy.travel / 50 < (s.cc.position - copy.travel) + (copy.travel - s.cc.position)
       let ended : MoveRec := { MoveRec.opened .testLower s.clock s.cc.position with
         stop := some s.clock, outcome := some .complete, warns := if mismatch then [.encoderMismatch] else [] }
       ∃ t, exec (.lower h raw) s = .next t ∧
         t.cc = { s.cc with
           state := .inn, reason := none, move := none, heldExpiry := none, log := appendLog s.cc.log ended } ∧
         s.produces t
           [.curtain { previous := s.cc.state, state := .lowering, cause := .lower, record := some .testLower,
                       position := s.cc.position, lock := s.cc.lock, permit := s.cc.permit, reason := none },
            .movement ended, t.curtainShown .lowering .complete] ∧
         t.notices = s.notices ++ [.movementNotice .testLower .complete false 0 s.tab.curtainCopy.tLimit] ∧
         t.answers h 0x20#8 .ok (clockBytes s.clock ++ be2 s.cc.position) ∧
         t = { s with cc := t.cc, tab := (s.markUsed h.station x).tab, notices := t.notices
                      paired := s.paired.set h.station none, dl := s.dl.sent t.dl })) ∧
  (∀ (s : State) (h : Hdr),
     (s.ready → s.admits h.station 1 → s.al.stage ≠ .quiet →
       exec (.permitRaise h) s = .next ((s.unpaired h.station).replied h 0x21#8 .eStage [])) ∧
     (s.ready → s.admits h.station 1 → s.al.stage = .quiet → s.cc.lock.isSome = true →
       exec (.permitRaise h) s = .next ((s.unpaired h.station).replied h 0x21#8 .eLocked [])) ∧
     (s.ready → s.admits h.station 1 → s.al.stage = .quiet → s.cc.lock = none →
       exec (.permitRaise h) s = .next (State.replied h 0x21#8 .ok (clockBytes (s.clock + 3000#32))
         { s.unpaired h.station with cc := { s.cc with permit := some (s.clock + 3000#32) } })) ∧
     (s.inReset = false → ∀ d, s.cc.permit = some d →
       exec .permitExpiry s =
         .next (if reached s.clock d then { s with cc := { s.cc with permit := none } } else s))) ∧
  (∀ (s : State) (h : Hdr) (raw : Half) (x : Selector), s.ready → s.passes h.station raw (.house .curtain) x →
     let refusal := fun c => exec (.raise h raw) s =
       .next (((s.markUsed h.station x).unpaired h.station).replied h 0x22#8 c [])
     let rest := s.cc.state = .inn ∨ s.cc.state = .parked ∨ s.cc.state = .held
     (¬rest → refusal .eMotion) ∧
     (rest → s.al.stage ≠ .quiet → refusal .eStage) ∧
     (rest → s.al.stage = .quiet → s.cc.lock.isSome = true → refusal .eLocked) ∧
     (rest → s.al.stage = .quiet → s.cc.lock = none → s.cc.permit = none → refusal .ePermit) ∧
     (rest → s.al.stage = .quiet → s.cc.lock = none → s.cc.permit.isSome = true → s.cc.driveReady = false →
       refusal .eMotion) ∧
     (rest → s.al.stage = .quiet → s.cc.lock = none → s.cc.permit.isSome = true → s.cc.driveReady = true →
       s.im.inhibit.drive = true → refusal .eInhibit) ∧
     (rest → s.al.stage = .quiet → s.cc.lock = none → s.cc.permit.isSome = true → s.cc.driveReady = true →
       s.im.inhibit.drive = false →
       let copy := s.tab.curtainCopy
       let old := if s.cc.state = .held then s.cc.move else none
       let log := match old with
         | none => s.cc.log
         | some m => appendLog s.cc.log { m.record with stop := some s.clock, outcome := some .aborted }
       let told := s.notices ++ match old with
         | none => []
         | some m => [.movementNotice m.record.kind .aborted m.record.held m.record.duration m.params.tLimit]
       let closed := match old with
         | none => []
         | some m => [Report.movement { m.record with stop := some s.clock, outcome := some .aborted }]
       let shown := closed ++
         [.curtain { previous := s.cc.state, state := .raising, cause := .raise, record := some .raise,
                     position := s.cc.position, lock := none, permit := none, reason := none }]
       let ended : MoveRec := { MoveRec.opened .raise s.clock s.cc.position with
         stop := some s.clock, outcome := some .complete
         warns := if copy.travel / 50 < s.cc.position then [.encoderMismatch] else [] }
       ∃ t, exec (.raise h raw) s = .next t ∧ t.cc.permit = none ∧ t.cc.lock = none ∧
         (s.cc.top = false → s.produces t shown ∧ t.notices = told ∧ t.cc = { s.cc with
           permit := none, state := .raising, reason := none, log
           heldExpiry := if old.isSome then none else s.cc.heldExpiry
           move := some (.fresh .raise copy s.clock s.cc.position) }) ∧
         (s.cc.top = true → t.notices = told ++ [.movementNotice .raise .complete false 0 copy.tLimit] ∧
           s.produces t (shown ++ [.movement ended, t.curtainShown .raising .complete]) ∧
           t.cc = { s.cc with
             permit := none, state := .out, reason := none, heldExpiry := none, move := none
             log := appendLog log ended }) ∧
         t.answers h 0x22#8 .ok (clockBytes s.clock ++ be2 s.cc.position) ∧
         t = { s with cc := t.cc, tab := (s.markUsed h.station x).tab, notices := t.notices
                      paired := s.paired.set h.station none, dl := s.dl.sent t.dl }))

/-- R54, R56, R57, R70 and R72: HOLD stops a test lowering or a raise for up to 600 s, RESUME lets it go on with a
window reset and a new grid, and the held expiry gives it up. R49 and R68: the reports of each. Rests on the model's
choices of notes/assumptions/5.md, notes/assumptions/7.md, notes/assumptions/9.md. -/
def Obligations.HoldAndResume : Prop :=
  ∀ (s : State) (h : Hdr) (raw : Half) (x : Selector),
    (s.ready → s.passes h.station raw (.house .curtain) x →
      (s.cc.state.moving = false → exec (.hold h raw) s =
        .next (((s.markUsed h.station x).unpaired h.station).replied h 0x23#8 .eNothing [])) ∧
      (s.cc.state = .lowering → s.fireMove = true → exec (.hold h raw) s =
        .next (((s.markUsed h.station x).unpaired h.station).replied h 0x23#8 .eLocked [])) ∧
      (∀ m, s.cc.state.moving = true → s.cc.move = some m → (s.cc.state = .raising ∨ s.fireMove = false) →
        exec (.hold h raw) s = .next (State.replied h 0x23#8 .ok (be2 s.cc.position ++ clockBytes (s.clock + 60000#32))
          (State.addReport
            (.curtain { previous := s.cc.state, state := .held, cause := .hold, record := some m.record.kind,
                        position := s.cc.position, lock := s.cc.lock, permit := s.cc.permit, reason := none })
            { (s.markUsed h.station x).unpaired h.station with cc := { s.cc with
                state := .held, reason := none, heldExpiry := some (s.clock + 60000#32),
                move := some { m with record := { m.record with held := true } } } })))) ∧
    (s.ready → s.passes h.station raw (.house .curtain) x → ∀ m, s.cc.state = .held → s.cc.move = some m →
      s.cc.driveReady = true → s.im.inhibit.drive = false →
      (m.record.kind = .raise → (s.al.stage = .quiet ∧ s.cc.lock = none)) →
      (m.record.kind ≠ .raise → s.cc.settingClear = true) →
      exec (.resume h raw) s = .next (State.replied h 0x24#8 .ok []
        (State.addReport
          (.curtain { previous := .held, state := if m.record.kind = .raise then .raising else .lowering,
                      cause := .resume, record := some m.record.kind, position := s.cc.position,
                      lock := s.cc.lock, permit := s.cc.permit, reason := none })
          { (s.markUsed h.station x).unpaired h.station with cc := { s.cc with
              state := if m.record.kind = .raise then .raising else .lowering, reason := none, heldExpiry := none,
              move := some { m with nextSample := s.clock + 10#32, window := [], allowance := 0, underCount := 0,
                                    overCount := 0, stallCount := 0, dashpotCount := 0, lateCount := 0,
                                    raiseStallCount := 0 } } }))) ∧
    (s.ready → s.passes h.station raw (.house .curtain) x → ∀ m, s.cc.state = .held → s.cc.move = some m →
      let refusal := fun c => exec (.resume h raw) s =
        .next (((s.markUsed h.station x).unpaired h.station).replied h 0x24#8 c [])
      let may := (m.record.kind = .raise → s.al.stage = .quiet ∧ s.cc.lock = none) ∧
        (m.record.kind ≠ .raise → s.cc.settingClear = true)
      (m.record.kind ≠ .raise → s.cc.settingClear = false → refusal .eMotion) ∧
      (m.record.kind = .raise → s.al.stage ≠ .quiet → refusal .eStage) ∧
      (m.record.kind = .raise → s.al.stage = .quiet → s.cc.lock.isSome = true → refusal .eLocked) ∧
      (may → s.cc.driveReady = false → refusal .eMotion) ∧
      (may → s.cc.driveReady = true → s.im.inhibit.drive = true → refusal .eInhibit)) ∧
    (s.ready → s.passes h.station raw (.house .curtain) x → s.cc.state ≠ .held → exec (.resume h raw) s =
      .next (((s.markUsed h.station x).unpaired h.station).replied h 0x24#8 .eNothing [])) ∧
    (s.inReset = false → ∀ m d, s.cc.state = .held → s.cc.move = some m → s.cc.heldExpiry = some d →
      (reached s.clock d = false → exec .heldExpiry s = .next s) ∧
      (reached s.clock d = true → ∃ t, exec .heldExpiry s = .next t ∧
        t.cc = { s.cc with
          state := .parked, reason := none, move := none, heldExpiry := none,
          log := appendLog s.cc.log { m.record with stop := some s.clock, outcome := some .aborted } } ∧
        t.notices = s.notices ++
          [.movementNotice m.record.kind .aborted m.record.held m.record.duration m.params.tLimit] ∧
        s.produces t [.movement { m.record with stop := some s.clock, outcome := some .aborted },
          t.curtainShown .held .heldExpiry] ∧
        t = { s with cc := t.cc, notices := t.notices, dl := s.dl.reported t.dl }))

/-- R46 and R58: CLEAR_FAULT takes the state from the limits, as they stand at their pins. R60 and R61: RELEASE_LOCK
clears the fire lock and tells OS so (R143). R13 and R16: both are refused above level 1. Rests on the model's choices
of notes/assumptions/7.md, notes/assumptions/9.md. -/
def Obligations.FaultAndLockAreCleared : Prop :=
  ∀ (s : State) (h : Hdr), s.ready →
    (s.stationPresent h.station = true → 1 < (s.cpl h.station).val → ∀ i ∈ [Instr.clearFault h, .releaseLock h],
      exec i s = .next ((s.unpaired h.station).replied h (codeOf i) .eAccess [6, 0, 0, 0, 0, 0])) ∧
    (s.admits h.station 1 →
    (s.cc.state ≠ .fault →
      exec (.clearFault h) s = .next ((s.unpaired h.station).replied h 0x25#8 .eNothing [])) ∧
    (s.cc.state = .fault → s.cc.top = true → s.cc.bottom = true → exec (.clearFault h) s =
      .next (State.replied h 0x25#8 .ok [6]
        { s.unpaired h.station with cc := { s.cc with reason := some .limitsBoth } })) ∧
    (∀ c, s.cc.state = .fault →
      (s.cc.top = true ∧ s.cc.bottom = false ∧ c = .out ∨ s.cc.top = false ∧ s.cc.bottom = true ∧ c = .inn ∨
        s.cc.top = false ∧ s.cc.bottom = false ∧ c = .parked) →
      exec (.clearFault h) s = .next (State.replied h 0x25#8 .ok [BitVec.ofNat 8 c.ctorIdx]
        (State.addReport
          (.curtain { previous := .fault, state := c, cause := .clearFault,
                      record := s.cc.move.map fun m => m.record.kind,
                      position := s.cc.position, lock := s.cc.lock, permit := s.cc.permit, reason := none })
          { s.unpaired h.station with cc := { s.cc with state := c, reason := none } }))) ∧
    (s.cc.lock = none →
      exec (.releaseLock h) s = .next ((s.unpaired h.station).replied h 0x26#8 .eNothing [])) ∧
    (s.cc.lock.isSome = true → s.al.stage ≠ .quiet →
      exec (.releaseLock h) s = .next ((s.unpaired h.station).replied h 0x26#8 .eStage [])) ∧
    (s.cc.lock.isSome = true → s.al.stage = .quiet → s.cc.state = .lowering → s.fireMove = true →
      exec (.releaseLock h) s = .next ((s.unpaired h.station).replied h 0x26#8 .eMotion [])) ∧
    (s.cc.lock.isSome = true → s.al.stage = .quiet → (s.cc.state ≠ .lowering ∨ s.fireMove = false) →
      exec (.releaseLock h) s = .next (State.replied h 0x26#8 .ok []
        (State.curtainReport s.cc.state .releaseLock
          { s.unpaired h.station with
            cc := { s.cc with lock := none }, notices := s.notices ++ [.fireLockNotice false] }))))

/-- R47: at rest the curtain state follows the limits; in FAULT, HELD, LOWERING and RAISING it does not. R55, R59 and
R71: what SETTING_LINE_CLEAR and DRIVE_READY do when they go false, also when a sample taken first has read it, with
their reports (R49, R68, R69). Every change of an input is stored. Rests on the model's choices of
notes/assumptions/7.md, notes/assumptions/9.md. -/
def Obligations.InputsChangeCurtain : Prop :=
  (∀ (s : State) (p : Half) (top bottom : Bool), s.inReset = false →
     let read := { s.cc with position := p.toNat, top, bottom }
     let new : CurtainState :=
       if top && bottom then .fault else if top then .out else if bottom then .inn else .parked
     let rest := s.cc.state = .out ∨ s.cc.state = .inn ∨ s.cc.state = .parked
     ((¬rest ∨ new = s.cc.state) → exec (.limitChange p top bottom) s = .next { s with cc := read }) ∧
     (rest → new ≠ s.cc.state → exec (.limitChange p top bottom) s = .next
       (State.curtainReport s.cc.state .limit { s with cc := { read with
         state := new, reason := if top && bottom then some .limitsBoth else none } }))) ∧
  (∀ (s : State) (b : Bool), s.inReset = false →
     (∃ t, exec (.settingLineChange b) s = .next t ∧ t.cc.settingClear = b ∧
       t = { s with cc := t.cc, dl := s.dl.reported t.dl }) ∧
     ∃ t, exec (.driveReadyChange b) s = .next t ∧ t.cc.driveReady = b ∧
       t = { s with cc := t.cc, notices := t.notices, dl := s.dl.reported t.dl }) ∧
  (∀ (s : State), s.inReset = false →
     (∀ b, (b = true ∨ s.cc.state ≠ .lowering ∨ s.fireMove = true) →
       exec (.settingLineChange b) s = .next { s with cc := { s.cc with settingClear := b } }) ∧
     (∀ m, s.cc.state = .lowering → s.cc.move = some m → m.record.kind.fireClass = false →
       ∃ t, exec (.settingLineChange false) s = .next t ∧
         t.cc = { s.cc with
           settingClear := false, state := .held, reason := none, heldExpiry := some (s.clock + 60000#32),
           move := some { m with record := { m.record.warn .obstructed with held := true } } } ∧
         s.produces t ((if m.record.warns.contains .obstructed then []
           else [.curtainWarn (.warn .obstructed) m.record.kind m.record.start s.cc.position m.elapsed]) ++
           [t.curtainShown .lowering .settingLine]) ∧
         t = { s with cc := t.cc, dl := s.dl.reported t.dl }) ∧
     (∀ b, (b = true ∨ s.cc.state.moving = false ∨ (s.cc.state = .lowering ∧ s.fireMove = true)) →
       exec (.driveReadyChange b) s = .next { s with cc := { s.cc with driveReady := b } }) ∧
     (∀ m, s.cc.state.moving = true → s.cc.move = some m →
       (s.cc.state = .raising ∨ m.record.kind.fireClass = false) →
       ∃ t, exec (.driveReadyChange false) s = .next t ∧
         t.cc = { s.cc with
           driveReady := false, state := .parked, reason := none, move := none, heldExpiry := none,
           log := appendLog s.cc.log { m.record with stop := some s.clock, outcome := some .aborted } } ∧
         t.notices = s.notices ++
           [.movementNotice m.record.kind .aborted m.record.held m.record.duration m.params.tLimit] ∧
         s.produces t [.movement { m.record with stop := some s.clock, outcome := some .aborted },
           t.curtainShown s.cc.state .driveLost] ∧
         t = { s with cc := t.cc, notices := t.notices, dl := s.dl.reported t.dl }))

/-- R60, R62, R63 and R70: a FIRE trigger in every curtain state, with the drive free and with it inhibited, and the
sample 0 of the record that it opens. R66: the return to QUIET clears the lock and stops a fire-class lowering; with
neither it does nothing. R49, R68 and R69: the reports of each. Rests on the model's choices of
notes/assumptions/7.md, notes/assumptions/9.md, notes/assumptions/22.md. -/
def Obligations.FireClassMovements : Prop :=
  (∀ s : State, s.inReset = false → ∃ t, exec .fireTrigger s = .next t ∧
     t.cc.lock = some (s.cc.lock.getD .fire) ∧ t.cc.permit = none ∧
     State.triggered { s with notices := s.notices.erase .fireTrigger } t .fire ∧
     (s.im.inhibit.drive = false →
       (s.cc.state = .inn → t.cc.state = .inn ∧ t.cc.move = s.cc.move ∧ t.cc.log = s.cc.log) ∧
       ((s.cc.state = .out ∨ s.cc.state = .parked ∨ s.cc.state = .fault ∨ s.cc.state = .held ∨
           s.cc.state = .raising) →
         (s.cc.bottom = false → t.cc.state = .lowering ∧
           ∃ m ∈ t.cc.move, m.record.kind = .fire ∧ m.record.start = s.clock ∧ m.params = s.tab.curtainCopy ∧
             m.record.startPosition = s.cc.position ∧ m.previous = some s.cc.position ∧
             m.nextSample = s.clock + 10#32) ∧
         (s.cc.bottom = true → t.cc.state = .inn ∧ t.cc.move = none)) ∧
       (s.cc.state = .lowering → s.fireMove = true → t.cc.state = .lowering ∧ t.cc.move = s.cc.move) ∧
       (∀ m, s.cc.state = .lowering → s.cc.move = some m → m.record.kind.fireClass = false → s.cc.bottom = false →
         t.cc.state = .lowering ∧
         t.cc.log = appendLog s.cc.log { m.record with stop := some s.clock, outcome := some .aborted } ∧
         ∃ n ∈ t.cc.move, n.record.kind = .fire ∧ n.window = m.window ∧ n.allowance = m.allowance ∧ n.elapsed = 0 ∧
           n.slowCount = none ∧ n.record.startPosition = s.cc.position ∧ n.previous = m.previous ∧
           n.nextSample = m.nextSample)) ∧
     (s.im.inhibit.drive = true →
       ((s.cc.state = .inn ∨ s.cc.state = .lowering) →
         t.cc.state = s.cc.state ∧ t.cc.move = s.cc.move ∧ t.cc.log = s.cc.log) ∧
       ((s.cc.state = .out ∨ s.cc.state = .parked ∨ s.cc.state = .fault) → t.cc.state = s.cc.state ∧
         t.cc.log.getLast? = some { MoveRec.opened .fire s.clock s.cc.position with
           stop := some s.clock, outcome := some .blocked }) ∧
       ((s.cc.state = .held ∨ s.cc.state = .raising) → t.cc.state = .parked)) ∧
     (s.cc.lock = none → Instr.fireLockNotice true ∈ t.notices) ∧
     t = { s with cc := t.cc, notices := t.notices, dl := s.dl.reported t.dl }) ∧
  (∀ s : State, s.inReset = false →
     (s.cc.lock = none → (s.cc.state ≠ .lowering ∨ s.fireMove = false) →
       exec .alarmQuiet s = .next { s with notices := s.notices.erase .alarmQuiet }) ∧
     (s.cc.lock.isSome = true → (s.cc.state ≠ .lowering ∨ s.fireMove = false) →
       exec .alarmQuiet s = .next (State.curtainReport s.cc.state .alarmQuiet { s with
         cc := { s.cc with lock := none }
         notices := s.notices.erase .alarmQuiet ++ [.fireLockNotice false] })) ∧
     (∀ m, s.cc.state = .lowering → s.cc.move = some m → m.record.kind.fireClass = true →
       let outcome := if m.record.faults.isEmpty then MoveOutcome.aborted else .fault
       let ended : MoveRec := { m.record with stop := some s.clock, outcome := some outcome }
       ∃ t, exec .alarmQuiet s = .next t ∧ t.cc = { s.cc with
         state := .parked, reason := none, move := none, heldExpiry := none, lock := none
         log := appendLog s.cc.log ended } ∧
         t.notices = s.notices.erase .alarmQuiet ++
           [.movementNotice m.record.kind outcome m.record.held m.record.duration m.params.tLimit] ++
           (if s.cc.lock.isSome then [.fireLockNotice false] else []) ∧
         s.produces t [.movement ended, t.curtainShown .lowering .alarmQuiet] ∧
         t = { s with cc := t.cc, notices := t.notices, dl := s.dl.reported t.dl }))

/-- R70 to R85: a grid sample of a movement, taken at its time on the grid. It completes at its limit; else its new
fault flags end it, as R81 says of its kind, or it goes on with the window, the counters, the projection and the flags
of the sample. R49, R68 and R69: its reports. Rests on the model's choices of notes/assumptions/5.md,
notes/assumptions/7.md, notes/assumptions/9.md, notes/assumptions/30.md. -/
def Obligations.CurtainSampleSupervises : Prop :=
  ∀ (s : State) (p : Half) (top bottom setting : Bool), s.inReset = false →
    (s.cc.state.moving = false → exec (.curtainSample p top bottom setting) s = .next s) ∧
    ∀ m, s.cc.move = some m →
    (reached s.clock m.nextSample = false → exec (.curtainSample p top bottom setting) s = .next s) ∧
    (s.cc.state.moving = true → reached s.clock m.nextSample = true →
      let pos := p.toNat
      let raise := decide (m.record.kind = .raise)
      let raw : Int := if raise then (m.previous.getD pos : Int) - pos else (pos : Int) - m.previous.getD pos
      let window := (if 4 ≤ m.window.length then m.window.drop 1 else m.window) ++ [raw]
      let mean := Int.tdiv window.sum window.length
      let elapsed := min 65535 (m.elapsed + 1)
      let allowance := min 65535 (m.allowance + 1)
      let allowed := decide (10 ≤ allowance)
      let slow := !raise && decide (m.params.slowStart ≤ pos)
      let slowCount := if slow then some (m.slowCount.elim 0 fun n => min 65535 (n + 1)) else m.slowCount
      let count := fun (most old : Nat) (c : Bool) => if c then min most (old + 1) else 0
      let under := if raise then m.underCount
        else count 20 m.underCount (!slow && allowed && decide (mean < m.params.vMinFast))
      let above := if raise then m.overCount
        else count 20 m.overCount (!slow && allowed && decide ((m.params.vMaxFast : Int) < mean))
      let dashpot := if raise then m.dashpotCount
        else count 3 m.dashpotCount (slow && decide (5 ≤ slowCount.getD 0) && decide ((m.params.vMaxSlow : Int) < mean))
      let stall := if raise then m.stallCount else count 20 m.stallCount (allowed && decide (mean ≤ 0))
      let weak := if raise then count 3 m.raiseStallCount (allowed && decide (mean < m.params.vMinRaise))
        else m.raiseStallCount
      let flag := fun (c : Bool) (f : FaultFlag) => if c && !m.record.faults.contains f then [f] else []
      let new := if raise then
          flag (decide (3 ≤ weak)) .raiseStall ++ flag (decide (m.params.tRaiseLimit < elapsed)) .raiseOvertime
        else
          flag (decide (3 ≤ under)) .underspeed ++ flag (decide (3 ≤ above)) .overspeed ++
            flag (decide (3 ≤ dashpot)) .dashpot ++ flag (decide (20 ≤ stall)) .stall ++
            flag (decide (m.params.tLimit < elapsed)) .overtime
      let ends := m.record.kind = .raise ∧ new ≠ [] ∨ m.record.kind = .testLower ∧ ∃ f ∈ new, f ≠ .overtime
      let d := (max mean 1).toNat
      let ceil := fun a b : Nat => (a + (b - 1)) / b
      let projected := if slow then elapsed + ceil (m.params.travel - pos) d
        else elapsed + ceil (m.params.slowStart - pos) d + ceil (m.params.travel - m.params.slowStart) m.params.vSlowNom
      let late := if raise then m.lateCount else count 3 m.lateCount (allowed && decide (m.params.tLimit < projected))
      let limit := if raise then top else bottom
      let mismatch := if raise then decide (m.params.travel / 50 < pos)
        else decide (m.params.travel / 50 < (pos - m.params.travel) + (m.params.travel - pos))
      let top? := fun (c : Bool) (old : Nat) => if c && decide ((old : Int) < mean) then mean.toNat else old
      let record : MoveRec := { m.record with
        duration := min 1200 elapsed
        slowEntry := if slow && m.slowCount.isNone then some elapsed else m.record.slowEntry
        fastMax := top? (!slow) m.record.fastMax, slowMax := top? slow m.record.slowMax }
      let obstructed := m.record.warns.contains .obstructed || m.record.kind.fireClass && !setting
      let warning := fun f : WarnReport => Report.curtainWarn f m.record.kind m.record.start pos elapsed
      let warned := if m.record.kind.fireClass && !setting && !m.record.warns.contains .obstructed then
          [warning (.warn .obstructed)]
        else []
      let told := fun o : MoveOutcome => s.notices ++
        [.movementNotice m.record.kind o m.record.held (min 1200 elapsed) m.params.tLimit]
      ∃ t, exec (.curtainSample p top bottom setting) s = .next t ∧
        t.cc.position = pos ∧ t.cc.top = top ∧ t.cc.bottom = bottom ∧ t.cc.settingClear = setting ∧
        (limit = true →
          let outcome := if m.record.kind.fireClass && !m.record.faults.isEmpty then MoveOutcome.fault else .complete
          t.cc.state = (if raise then .out else .inn) ∧ t.cc.reason = none ∧ t.cc.move = none ∧
          t.cc.heldExpiry = none ∧ t.notices = told outcome ∧
          ∃ r, t.cc.log = appendLog s.cc.log r ∧
            s.produces t (warned ++ [.movement r, t.curtainShown s.cc.state .complete]) ∧
            r = { record with stop := some s.clock, outcome := some outcome, warns := r.warns } ∧
            r.warns.contains .obstructed = obstructed ∧ r.warns.contains .late = m.record.warns.contains .late ∧
            r.warns.contains .encoderMismatch = (m.record.warns.contains .encoderMismatch || mismatch)) ∧
        (limit = false → ends →
          t.cc.state = .fault ∧ t.cc.reason = new.head?.map FaultReason.flag ∧ t.cc.move = none ∧
          t.cc.heldExpiry = none ∧ t.notices = told .fault ∧
          (let r : MoveRec := { record with
            stop := some s.clock, outcome := some .fault, faults := m.record.faults ++ new }
          t.cc.log = appendLog s.cc.log r ∧ s.produces t [.movement r, t.curtainShown s.cc.state .fault])) ∧
        (limit = false → ¬ends →
          t.cc = { s.cc with position := pos, top, bottom, settingClear := setting, move := t.cc.move } ∧
          t.notices = s.notices ∧
          (∃ n ∈ t.cc.move,
            n.record = { record with faults := m.record.faults ++ new, warns := n.record.warns } ∧
            n.record.warns.contains .obstructed = obstructed ∧
            n.record.warns.contains .encoderMismatch = m.record.warns.contains .encoderMismatch ∧
            n.record.warns.contains .late = (m.record.warns.contains .late || !raise && decide (3 ≤ late)) ∧
            n.params = m.params ∧ n.nextSample = m.nextSample + 10#32 ∧ n.window = window ∧ n.previous = some pos ∧
            n.elapsed = elapsed ∧ n.allowance = allowance ∧ n.slowCount = slowCount ∧ n.underCount = under ∧
            n.overCount = above ∧ n.dashpotCount = dashpot ∧ n.stallCount = stall ∧ n.raiseStallCount = weak ∧
            n.lateCount = late) ∧
          s.produces t (warned ++ new.map (fun f => warning (.fault f)) ++
            if !raise && decide (3 ≤ late) && !m.record.warns.contains .late then [warning (.warn .late)] else [])) ∧
        t.cc.lock = s.cc.lock ∧ t.cc.permit = s.cc.permit ∧ t.cc.driveReady = s.cc.driveReady ∧
        t = { s with cc := t.cc, notices := t.notices, dl := s.dl.reported t.dl })

/-- R64 and R71: a fire-class lowering goes on through every command but the return to QUIET, an inhibit of the DRIVE
group (as it comes, or taken from the head of the buffer), the sample that reads BOTTOM made, and a reset. -/
def Obligations.FireLoweringGoesOn : Prop :=
  ∀ (s t : State) (i : Instr), s.curtainLaw → i.wellFormed = true → s.cc.state = .lowering → s.fireMove = true →
    exec i s = .next t →
    (t.cc.state = .lowering ∧ t.fireMove = true ∧ t.releaseOn = true ∧ t.raiseOn = false) ∨
    i = .powerOnReset ∨ i = .restartReset ∨ i = .alarmQuiet ∨ (∃ h, s.handles i (.inhibitGroup h 0)) ∨
    ∃ p top setting, i = .curtainSample p top true setting

/-! ## Alarm Unit -/

/-- R86 to R91, R98, R100, R107 and R108: a sample of a line: its debounce, the class it takes, the alarm it adds, and
the LINE and STAGE reports of both. Rests on the model's choices of notes/assumptions/7.md, notes/assumptions/9.md,
notes/assumptions/21.md. -/
def Obligations.LineSampleDebounces : Prop :=
  ∀ (s : State) (n : Fin 32) (code : Byte), s.inReset = false →
    let old := s.al.lines[n]
    ((s.lineEntry n = none ∨ old.state = .isolated) →
      exec (.lineSample n code) s = .next (s.setLine n { old with last := some code })) ∧
    ∀ i b, s.lineEntry n = some (i, b) → old.state ≠ .isolated →
      let r := if old.candidate = some (bandOf code) then { old with last := some code, run := min 4 (old.run + 1) }
        else { old with last := some code, candidate := some (bandOf code), run := 1 }
      ((r.run ≠ 4 ∨ old.present = some (bandOf code)) → exec (.lineSample n code) s = .next (s.setLine n r)) ∧
      (r.run = 4 → old.present ≠ some (bandOf code) →
        let taken := fun x => s.setLine n { r with present := some (bandOf code), state := x }
        (old.state = .alarm → exec (.lineSample n code) s = .next (taken .alarm)) ∧
        (∀ x, (bandOf code = .normal ∧ x = .normal ∨ bandOf code = .opened ∧ x = .opened ∨
            bandOf code = .short ∧ x = .short) → old.state ≠ .alarm → x ≠ old.state →
          exec (.lineSample n code) s = .next (State.addReport
            (.line { line := n.val, entry := i, zone := b.zone, previous := old.state, state := x,
                     cause := .classTaken, last := some code }) (taken x))) ∧
        (∀ x, (bandOf code = .normal ∧ x = .normal ∨ bandOf code = .opened ∧ x = .opened ∨
            bandOf code = .short ∧ x = .short) → x = old.state →
          exec (.lineSample n code) s = .next (taken x)) ∧
        (bandOf code = .alarm → old.state ≠ .alarm →
          let staged := decide (b.kind = .detector) && s.tab.zoneStaged b.zone && s.perf.phase.audience &&
            s.al.list.isEmpty && s.al.knockEnd.isNone
          let line : Report :=
            .line { line := n.val, entry := i, zone := b.zone, previous := old.state, state := .alarm,
                    cause := .classTaken, last := some code }
          let entry := some (s.al.list.length + 1, Origin.line n.val)
          ∃ t, exec (.lineSample n code) s = .next t ∧
            t.al.lines = (taken .alarm).al.lines ∧
            t.al.list = s.al.list ++ [{ origin := .line n.val, zone := b.zone, time := s.clock, staged }] ∧
            (s.al.stage = .quiet → staged = true → s.leavesQuiet t ∧ t.os = s.os ∧ t.le = s.le ∧
              t.al = { s.al with
                lines := t.al.lines, list := t.al.list, stage := .alert, enteredAt := s.clock
                ackDue := some (s.clock + BitVec.ofNat 32 (s.tab.params.tAck * 100))
                invDue := none, ackBy := none, sounders := false } ∧
              s.produces t ([line,
                .stage { previous := .quiet, stage := .alert, cause := .firstEntry, station := 0, entry, gate := none,
                         count := t.al.list.length, first := t.al.list.head?, due := t.al.ackDue,
                         knockEnd := s.al.knockEnd, sounders := false, fireSent := false }] ++ s.raiseReports) ∧
              t.notices = s.notices ++ s.raiseEnds ++
                [.staffCallStart b.zone ((s.tab.zone? b.zone).map ZoneBody.staffMessage), .alertNotice,
                 .stageChangeNotice]) ∧
            ((s.al.stage = .quiet ∧ staged = false ∨ s.al.stage = .alert ∨ s.al.stage = .investigate ∨
                s.al.stage = .silenced) → s.evacuates t
              (s.listTriggers || s.tab.zoneTrigger b.zone) [line]
              { cause := if s.al.stage = .quiet then .firstEntry else .furtherEntry, station := 0, entry
                gate := none }) ∧
            (s.al.stage = .evacuate → s.produces t [line] ∧
              t.al = { s.al with lines := t.al.lines, list := t.al.list } ∧ t.os = s.os ∧ t.le = s.le ∧
              t.notices = s.notices ++ if s.tab.zoneTrigger b.zone then [.fireTrigger] else []) ∧
            (s.al.stage ≠ .quiet → t.cc = s.cc) ∧ t.cc.lock = s.cc.lock ∧
            t = { s with al := t.al, cc := t.cc, os := t.os, le := t.le, notices := t.notices
                         dl := s.dl.reported t.dl }))

/-- R92 to R96: an isolation is set, renewed, ended by its station and ended by its time. Rests on the model's choices
of notes/assumptions/5.md, notes/assumptions/17.md. -/
def Obligations.IsolationStands : Prop :=
  ∀ (s : State),
    (∀ (h : Hdr) (raw : Half) (minutes : Byte) (x : Selector) (b : LineBody), s.ready →
      s.passes h.station raw (.house .line) x → s.tab.lineAt x.index.val = some b → b.line < 32 →
      let n := b.index
      let marked := (s.markUsed h.station x).unpaired h.station
      let old := s.al.lines[n]
      let stop := if minutes = 0 then none else some (s.clock + BitVec.ofNat 32 (min 30 minutes.toNat * 6000))
      let kind := if minutes = 0 then IsolationKind.indefinite else .timed
      let data := [BitVec.ofNat 8 b.line, BitVec.ofNat 8 kind.ctorIdx] ++ optional 4 clockBytes stop
      let set : Isolation := { kind, start := s.clock, stop, station := h.station }
      let allowed := old.state ≠ .alarm ∧ (minutes = 0 → s.perf.phase.audience = false) ∧
        (minutes ≠ 0 → s.perf.phase.audience = true → s.isolatable n = true)
      (old.state = .alarm →
        exec (.isolate h raw minutes) s = .next (marked.replied h 0x30#8 .eStage [])) ∧
      (old.state ≠ .alarm → minutes = 0 → s.perf.phase.audience = true →
        exec (.isolate h raw minutes) s = .next (marked.replied h 0x30#8 .ePhase [])) ∧
      (old.state ≠ .alarm → minutes ≠ 0 → s.perf.phase.audience = true → s.isolatable n = false →
        exec (.isolate h raw minutes) s = .next (marked.replied h 0x30#8 .eParam [])) ∧
      (allowed → old.state = .isolated → exec (.isolate h raw minutes) s =
        .next ((marked.setLine n { old with isolation := some set }).replied h 0x30#8 .ok data)) ∧
      (allowed → old.state ≠ .isolated → exec (.isolate h raw minutes) s =
        .next ((State.lineReport n old.state .isolate (marked.setLine n { old with
          present := none, candidate := none, run := 0, state := .isolated, isolation := some set })).replied h
            0x30#8 .ok data)) ∧
      (old.state ≠ .isolated →
        exec (.deisolate h raw) s = .next (marked.replied h 0x31#8 .eNothing [])) ∧
      (old.state = .isolated → exec (.deisolate h raw) s =
        .next ((State.lineReport n .isolated .deisolate (marked.setLine n { old with
          present := none, candidate := none, run := 0, state := .normal, isolation := none })).replied h
            0x31#8 .ok []))) ∧
    (∀ (n : Fin 32) (x : Isolation) (d : Clock), s.inReset = false → s.al.lines[n].isolation = some x →
      x.stop = some d →
      (reached s.clock d = false → exec (.isolationExpiry n) s = .next s) ∧
      (reached s.clock d = true → exec (.isolationExpiry n) s =
        .next (State.lineReport n .isolated .expiry (State.isolationReport n x .expiry (s.setLine n
          { s.al.lines[n] with present := none, candidate := none, run := 0, state := .normal,
                               isolation := none })))))

/-- R50, R102, R103 and R163: the reading requests give their records and change nothing else. Rests on the model's
choices of notes/assumptions/17.md. -/
def Obligations.ReadsChangeNothing : Prop :=
  ∀ (s : State) (h : Hdr), s.ready → s.stationPresent h.station = true →
    (exec (.readMovements h) s = .next ((s.unpaired h.station).replied h 0x27#8 .ok
      ((match s.cc.move with
        | none => [0]
        | some m => 1 :: m.record.bytes m.elapsed) ++
        be1 s.cc.log.length ++ s.cc.log.reverse.flatMap fun r => r.bytes r.duration))) ∧
    (exec (.readAlarmList h) s = .next ((s.unpaired h.station).replied h 0x32#8 .ok
      (be1 s.al.stage.ctorIdx ++
        (match s.al.ackBy with
        | none => [0, 0, 0, 0]
        | some a => [1, BitVec.ofNat 8 a.station.val] ++
          (match a.gate with | none => [0, 0] | some g => [1, BitVec.ofNat 8 g])) ++
        be1 s.al.list.length ++ s.al.list.flatMap AlarmEntry.bytes))) ∧
    (∃ data, exec (.readLines h) s = .next ((s.unpaired h.station).replied h 0x33#8 .ok data) ∧
      data.length = 672 ∧ ∀ n : Fin 32, sliceOf data (21 * n.val) 6 =
        [BitVec.ofNat 8 n.val, BitVec.ofNat 8 (((s.lineEntry n).map Prod.fst).getD 0),
         BitVec.ofNat 8 s.al.lines[n].state.ctorIdx,
         match s.al.lines[n].present with | none => 4 | some b => BitVec.ofNat 8 b.ctorIdx] ++
        (match s.al.lines[n].last with | none => [0, 255] | some c => [1, c])) ∧
    (exec (.readQueue h) s = .next ((s.unpaired h.station).replied h 0x53#8 .ok
      (be1 s.cu.queue.length ++ s.cu.queue.flatMap Call.bytes)))

/-- R106, R110 and R117: ACKNOWLEDGE and SILENCE, each in its one stage. R107, R111, R112, R114, R115, R118 and R144:
the house is evacuated from ALERT or INVESTIGATE by the acknowledge due, by the investigate due and by EVACUATE_NOW,
with the STAGE report. An expiry in another stage, or before its time, does nothing. Rests on the model's choices of
notes/assumptions/5.md, notes/assumptions/7.md, notes/assumptions/21.md. -/
def Obligations.StageRequestsAndTimers : Prop :=
  (∀ (s : State) (h : Hdr), s.ready →
     (s.stationPresent h.station = true → 1 < (s.cpl h.station).val →
       ∀ i ∈ [Instr.acknowledge h, .silence h, .evacuateNow h],
       exec i s = .next ((s.unpaired h.station).replied h (codeOf i) .eAccess [6, 0, 0, 0, 0, 0])) ∧
     (s.admits h.station 1 → s.al.stage ≠ .alert → s.al.stage ≠ .investigate →
       exec (.evacuateNow h) s = .next ((s.unpaired h.station).replied h 0x35#8 .eStage [])) ∧
     (s.admits h.station 1 → s.al.stage ≠ .alert →
       exec (.acknowledge h) s = .next ((s.unpaired h.station).replied h 0x34#8 .eStage [])) ∧
     (s.admits h.station 1 → s.al.stage = .alert →
       let due := s.clock + BitVec.ofNat 32 (s.tab.params.tInv * 100)
       exec (.acknowledge h) s = .next (State.replied h 0x34#8 .ok (clockBytes due)
         { State.addReport
             (.stage { previous := .alert, stage := .investigate, cause := .acknowledge, station := h.station,
                       entry := none, gate := none, count := s.al.list.length, first := s.al.list.head?,
                       due := some due, knockEnd := s.al.knockEnd, sounders := false, fireSent := false })
             (s.unpaired h.station) with
           al := { s.al with stage := .investigate, enteredAt := s.clock, ackDue := none, invDue := some due,
                             ackBy := some { station := h.station, gate := none }, sounders := false }
           notices := s.notices ++ [.staffCallStop, .stageChangeNotice] })) ∧
     (s.admits h.station 1 → s.al.stage ≠ .evacuate →
       exec (.silence h) s = .next ((s.unpaired h.station).replied h 0x36#8 .eStage [])) ∧
     (s.admits h.station 1 → s.al.stage = .evacuate →
       exec (.silence h) s = .next (State.replied h 0x36#8 .ok []
         { State.addReport
             (.stage { previous := .evacuate, stage := .silenced, cause := .silence, station := h.station,
                       entry := none, gate := none, count := s.al.list.length, first := s.al.list.head?,
                       due := none, knockEnd := s.al.knockEnd, sounders := false, fireSent := false })
             (s.unpaired h.station) with
           al := { s.al with stage := .silenced, enteredAt := s.clock, ackDue := none, invDue := none,
                             ackBy := none, sounders := false }
           notices := s.notices ++ [.evacuationMessageStop, .stageChangeNotice] }))) ∧
  (∀ s : State, s.inReset = false → (s.al.stage = .alert ∨ s.al.stage = .investigate) →
     let entered := fun (t : State) (cause : StageCause) (station : Station) =>
       s.evacuates t s.listTriggers [] { cause, station, entry := none, gate := none } ∧
       t.al.list = s.al.list ∧ t.al.lines = s.al.lines ∧
       (s.os.evac = false → ∀ n : Fin 48, ∀ b, s.tab.governing n = some b → b.mask.evac = true →
         t.os.selections[n].source = .emergency ∧
         (s.os.selections[n].source ≠ .emergency → t.le.channels[n].selected = b.emergency)) ∧
       t = { s with al := t.al, cc := t.cc, os := t.os, le := t.le, notices := t.notices, paired := t.paired
                    dl := s.dl.sent t.dl }
     (∀ d, s.al.stage = .alert → s.al.ackDue = some d → reached s.clock d = true →
       ∃ t, exec .ackTimeout s = .next t ∧ entered t .ackTimeout 0 ∧ t.paired = s.paired) ∧
     (∀ d, s.al.stage = .investigate → s.al.invDue = some d → reached s.clock d = true →
       ∃ t, exec .investigateTimeout s = .next t ∧ entered t .investigateTimeout 0 ∧ t.paired = s.paired) ∧
     (∀ h, s.ready → s.admits h.station 1 →
       ∃ t, exec (.evacuateNow h) s = .next t ∧ entered t .evacuateNow h.station ∧ t.answers h 0x35#8 .ok [] ∧
         t.paired = s.paired.set h.station none)) ∧
  (∀ s : State, s.inReset = false →
     ((s.al.stage ≠ .alert ∨ s.al.ackDue = none) → exec .ackTimeout s = .next s) ∧
     ((s.al.stage ≠ .investigate ∨ s.al.invDue = none) → exec .investigateTimeout s = .next s) ∧
     (∀ d, s.al.ackDue = some d → reached s.clock d = false → exec .ackTimeout s = .next s) ∧
     (∀ d, s.al.invDue = some d → reached s.clock d = false → exec .investigateTimeout s = .next s))

/-- R90, R120, R121 and R122: ALARM_RESET after its enable empties the list, frees the lines, opens the second-knock
window, which its end closes, and produces the LINE reports and the STAGE report. Rests on the model's choices of
notes/assumptions/5.md, notes/assumptions/7.md, notes/assumptions/21.md. -/
def Obligations.AlarmResetReturnsToQuiet : Prop :=
  ∀ (s : State),
    (∀ h, s.ready → s.admits h.station 1 → (∀ p, s.paired[h.station] = some p → p.action ≠ .alarm) →
      exec (.alarmReset h) s = .next ((s.unpaired h.station).replied h 0x37#8 .eSequence [])) ∧
    (∀ h p, s.ready → s.admits h.station 1 → s.paired[h.station] = some p → reached s.clock p.expiry = true →
      s.clock ≠ p.expiry →
      exec (.alarmReset h) s = .next ((s.unpaired h.station).replied h 0x37#8 .eSequence [])) ∧
    (∀ h p, s.ready → s.admits h.station 1 → s.paired[h.station] = some p → p.action = .alarm →
      reached s.clock p.expiry = false → s.al.stage = .quiet →
      exec (.alarmReset h) s = .next ((s.unpaired h.station).replied h 0x37#8 .eStage [])) ∧
    (∀ h p, s.ready → s.admits h.station 1 → s.paired[h.station] = some p → p.action = .alarm →
      reached s.clock p.expiry = false → s.al.stage ≠ .quiet →
      ∃ t, exec (.alarmReset h) s = .next t ∧ t.al.list = [] ∧ t.al.stage = .quiet ∧ t.al.enteredAt = s.clock ∧
        t.al.ackDue = none ∧ t.al.invDue = none ∧ t.al.ackBy = none ∧ t.al.sounders = false ∧
        t.al.knockEnd = some (s.clock + 6000#32) ∧
        (∀ n : Fin 32, s.al.lines[n].state = .alarm → t.al.lines[n] =
          { s.al.lines[n] with state := .normal, present := none, candidate := none, run := 0 }) ∧
        (∀ n : Fin 32, s.al.lines[n].state ≠ .alarm → t.al.lines[n] = s.al.lines[n]) ∧
        t.notices = s.notices ++
          (if s.al.stage = .evacuate ∨ s.al.stage = .silenced then [.evacNotice false] else []) ++
          (if s.al.stage = .evacuate then [.evacuationMessageStop] else []) ++
          (if s.al.stage = .alert then [.staffCallStop] else []) ++ [.alarmQuiet, .stageChangeNotice] ∧
        t.answers h 0x37#8 .ok (be1 s.al.list.length ++ clockBytes (s.clock + 6000#32)) ∧
        s.produces t
          (((List.finRange 32).filter fun n : Fin 32 => decide (s.al.lines[n].state = .alarm)).map (fun n =>
            .line { line := n.val, entry := ((s.lineEntry n).map Prod.fst).getD 0
                    zone := ((s.lineEntry n).map fun e => e.2.zone).getD 0, previous := .alarm, state := .normal
                    cause := .alarmReset, last := s.al.lines[n].last }) ++
          [.stage { previous := s.al.stage, stage := .quiet, cause := .alarmReset, station := h.station,
                    entry := none, gate := none, count := 0, first := none, due := none,
                    knockEnd := some (s.clock + 6000#32), sounders := false, fireSent := false }]) ∧
        t = { s with al := t.al, notices := t.notices, paired := s.paired.set h.station none
                     dl := s.dl.sent t.dl }) ∧
    (∀ d, s.inReset = false → s.al.knockEnd = some d → exec .knockWindowEnd s =
      .next (if reached s.clock d then { s with al := { s.al with knockEnd := none } } else s))

/-! ## Lighting Engine -/

/-- R128, R129, R132 and R133: SET_LEVEL starts a fade; STANDBY sets the station's cue and GO fires it. -/
def Obligations.FadesAndCuesStart : Prop :=
  ∀ (s : State) (h : Hdr), s.ready →
    let fading := fun (c : Channel) (target n : Nat) =>
      { c with fade := some { start := c.primary, target, n, k := 0, owner := h.station } }
    (∀ raw level fade x b (hb : b.output < 48), s.passes h.station raw (.house .channel) x →
      s.tab.channelAt x.index.val = some b →
      let n := if fade.toNat = 0 then 1 else 5 * min 6000 fade.toNat
      exec (.setLevel h raw level fade) s = .next (State.replied h 0x40#8 .ok
        (be1 b.output ++ be2 s.le.channels[b.output].primary ++ be2 (min 4095 level.toNat) ++ be2 n)
        { (s.markUsed h.station x).unpaired h.station with
          le := { s.le with channels :=
            s.le.channels.set b.output (fading s.le.channels[b.output] (min 4095 level.toNat) n) } })) ∧
    (∀ raw x p, s.passes h.station raw (.inLocal .preset) x → s.tab.presetAt h.station x.index.val = some p →
      (∀ f, s.tab.innerFault h.station (s.cpl h.station) (.house .channel) p.inner = some f →
        exec (.standby h raw) s = .next ((s.unpaired h.station).replied h 0x41#8 .eAccess f.bytes)) ∧
      (s.tab.innerFault h.station (s.cpl h.station) (.house .channel) p.inner = none →
        exec (.standby h raw) s = .next (State.replied h 0x41#8 .ok
          (be1 x.index.val ++ be1 p.pairs.length ++
            (match s.le.cues[h.station] with | none => [0, 0] | some i => [1, BitVec.ofNat 8 i.val]))
          { ((s.markUsed h.station x).markAll h.station (p.pairs.map Prod.fst)).unpaired h.station with
            le := { s.le with cues := s.le.cues.set h.station (some (Fin.ofNat 16 x.index.val)) } }))) ∧
    (s.stationPresent h.station = true → s.le.cues[h.station] = none →
      exec (.go h) s = .next ((s.unpaired h.station).replied h 0x42#8 .eNothing [])) ∧
    (∀ i p, s.stationPresent h.station = true → s.le.cues[h.station] = some i →
      s.tab.presetAt h.station i.val = some p →
      ∃ t, exec (.go h) s = .next t ∧ t.le.cues = s.le.cues.set h.station none ∧
        (∀ n : Fin 48, t.le.channels[n] =
          match ((s.tab.cueOutputs p).filter fun x => decide (x.1 = n.val)).getLast? with
          | none => s.le.channels[n]
          | some x => fading s.le.channels[n] x.2 (if p.fade = 0 then 1 else p.fade * 5)) ∧
        t.answers h 0x42#8 .ok
          (be1 i.val ++ be1 ((s.tab.cueOutputs p).map Prod.fst).eraseDups.length) ∧
        s.produces t [] ∧
        t = { s with le := { s.le with cues := t.le.cues, channels := t.le.channels }
                     paired := s.paired.set h.station none, dl := s.dl.sent t.dl })

/-- R137 and R138: SET_CYCLE leaves a pending cycle length, and a cycle start takes it with every reload value for it
and sets every high count. R135 and R139: it restarts the counter, and lets go of the lines unless the lighting group
is inhibited; a line that nothing holds on is on while the counter is below its high count. R13: SET_CYCLE is refused
above level 2. Rests on the model's choices of notes/assumptions/25.md. -/
def Obligations.CycleLengthIsTaken : Prop :=
  ∀ (s : State),
    (∀ h (b : Byte), s.ready → s.stationPresent h.station = true → 2 < (s.cpl h.station).val →
      exec (.setCycle h b) s = .next ((s.unpaired h.station).replied h 0x43#8 .eAccess [6, 0, 0, 0, 0, 0])) ∧
    (∀ h (b : Byte), s.ready → s.admits h.station 2 → (b.toNat < 8 ∨ 11 < b.toNat) →
      exec (.setCycle h b) s = .next ((s.unpaired h.station).replied h 0x43#8 .eParam [])) ∧
    (∀ h (b : Byte), s.ready → s.admits h.station 2 → 8 ≤ b.toNat → b.toNat ≤ 11 → s.os.sup.enabled = true →
      exec (.setCycle h b) s = .next ((s.unpaired h.station).replied h 0x43#8 .eLocked [])) ∧
    (∀ h (b : Byte), s.ready → s.admits h.station 2 → 8 ≤ b.toNat → b.toNat ≤ 11 → s.os.sup.enabled = false →
      exec (.setCycle h b) s = .next (State.replied h 0x43#8 .ok [BitVec.ofNat 8 s.le.cycle, b]
        { s.unpaired h.station with le := { s.le with pendingCycle := some b.toNat } })) ∧
    (∀ n : Fin 48, s.dimmerOn n = true ↔
      s.inReset = true ∨ s.le.forced = true ∨ s.im.inhibit.lighting = true ∨ s.le.counter < s.le.channels[n].high) ∧
    (s.inReset = false → ∃ t, exec .cycleStart s = .next t ∧
      t.le.cycle = s.le.pendingCycle.getD s.le.cycle ∧ t.le.pendingCycle = none ∧ t.le.counter = 0 ∧
      t.le.forced = s.im.inhibit.lighting ∧
      (∀ n : Fin 48, t.le.channels[n].reload =
          (match s.le.pendingCycle with
          | none => s.le.channels[n].reload
          | some k => (s.le.channels[n].selected * 2 ^ k + 2047) / 4095) ∧
        t.le.channels[n].high = t.le.channels[n].reload ∧
        t.le.channels[n].primary = s.le.channels[n].primary ∧
        t.le.channels[n].selected = s.le.channels[n].selected ∧ t.le.channels[n].fade = s.le.channels[n].fade) ∧
      t.le.cues = s.le.cues ∧ t.le.fadeHalf = s.le.fadeHalf ∧ t.le.tickCount = s.le.tickCount ∧
      t = { s with le := t.le })

/-- R126, R127, R136, R142 and R146: a fade tick, for every channel whose source stands. R127, R136 and R146: an eased
level stays between its ends and reaches each, and a reload value is the nearest whole count to its share of the
cycle. -/
def Obligations.FadeTickMovesLevels : Prop :=
  (∀ (s : State), s.inReset = false → ∃ t, exec .fadeTick s = .next t ∧
     (∀ n : Fin 48,
       let c := s.le.channels[n]
       let d := t.le.channels[n]
       (c.fade = none → d.primary = c.primary ∧ d.fade = none) ∧
       (∀ f, c.fade = some f → d.primary = easeLevel f.start f.target (f.k + 1) f.n ∧
         d.fade = if f.n ≤ f.k + 1 then none else some { f with k := f.k + 1 }) ∧
       d.high = c.high ∧
       d.reload = (if d.selected = c.selected then c.reload else (d.selected * 2 ^ s.le.cycle + 2047) / 4095) ∧
       (s.os.selections[n].source = s.os.sourceOf n (s.tab.governing n) →
         let v := s.os.selections[n].source.value (s.tab.governing n) d.primary
         t.os.selections[n].source = s.os.selections[n].source ∧
         (s.os.selections[n].transition = none → d.selected = v ∧ t.os.selections[n].transition = none) ∧
         (∀ x, s.os.selections[n].transition = some x → d.selected = easeLevel x.origin v (x.j + 1) x.m ∧
           t.os.selections[n].transition = if x.m ≤ x.j + 1 then none else some { x with j := x.j + 1 }))) ∧
     t = { s with le := { s.le with channels := t.le.channels }, os := { s.os with selections := t.os.selections } }) ∧
  ((∀ a b k n : Nat, 1 ≤ n → k ≤ n →
     easeLevel a b 0 n = a ∧ easeLevel a b n n = b ∧ min a b ≤ easeLevel a b k n ∧ easeLevel a b k n ≤ max a b) ∧
   (∀ v n : Nat, v ≤ 4095 → reloadOf 0 n = 0 ∧ reloadOf 4095 n = 2 ^ n ∧ reloadOf v n ≤ 2 ^ n ∧
     reloadOf v n * 4095 ≤ v * 2 ^ n + 2047 ∧ v * 2 ^ n ≤ reloadOf v n * 4095 + 2047))

/-! ## Override Selector -/

/-- R143, R144 and R145: a notice that changes an event gives every channel the first source that applies, by a snap
or by a transition from its selected level; one that repeats the event's value changes nothing. R142, R148, R157 and
R179: OS and CU take a change of the tables: each channel reads its source anew, and each free circuit its default
source. Rests on the model's choices of notes/assumptions/7.md. -/
def Obligations.SourcesAreSelected : Prop :=
  ((∀ (o : Overrides) (n : Nat),
     o.sourceOf n none = .primary ∧
     ∀ b : ChannelBody,
       let emergency := (o.evac = true ∧ b.mask.evac = true) ∨ (o.fireLock = true ∧ b.mask.fireLock = true)
       let hold := o.deskLoss = true ∧ b.mask.deskLoss = true
       let flick := o.flick.getLsbD n = true ∧ b.mask.flick = true
       (emergency → o.sourceOf n (some b) = .emergency) ∧
       (¬emergency → hold → o.sourceOf n (some b) = .hold) ∧
       (¬emergency → ¬hold → flick → o.sourceOf n (some b) = .flick) ∧
       (¬emergency → ¬hold → ¬flick → o.sourceOf n (some b) = .primary)) ∧
   ∀ (s : State) (i : Instr) (o : Overrides), s.inReset = false →
     ((∃ b, i = .evacNotice b ∧ o = { s.os with evac := b }) ∨
       (∃ b, i = .fireLockNotice b ∧ o = { s.os with fireLock := b }) ∨
       (∃ n, i = .flickNotice n true ∧ o = { s.os with flick := s.os.flick ||| channelBit n }) ∨
       (∃ n, i = .flickNotice n false ∧ o = { s.os with flick := s.os.flick &&& ~~~(channelBit n) })) →
     (o = s.os → exec i s = .next { s with notices := s.notices.erase i }) ∧
     (o ≠ s.os → ∃ t, exec i s = .next t ∧ t.notices = s.notices.erase i ∧
       t.os = { o with selections := t.os.selections } ∧ (∀ n : Fin 48, s.reselects t o n) ∧
       t = { s with os := t.os, le := { s.le with channels := t.le.channels }, notices := t.notices })) ∧
  (∀ s : State, s.inReset = false → ∃ t, exec .tableChangeNotice s = .next t ∧
     (∀ n : Fin 48,
       let old := s.os.selections[n]
       let c := s.le.channels[n]
       let src := s.os.sourceOf n (s.tab.governing n)
       (src ≠ old.source → s.reselects t s.os n) ∧
       (src = old.source → t.os.selections[n] = old ∧
         (old.transition = none →
           t.le.channels[n] = c.shows s.le.cycle (src.value (s.tab.governing n) c.primary)) ∧
         (old.transition ≠ none → t.le.channels[n] = c))) ∧
     (∀ n : Fin 16, t.cu.circuits[n].holder = none → t.cu.circuits[n].programme = s.defaultProgramme n) ∧
     s.scansBetween t [] [] ∧
     t = { s with os := { s.os with selections := t.os.selections }, le := { s.le with channels := t.le.channels }
                  cu := t.cu, notices := t.notices, dl := s.dl.reported t.dl })

/-- R150 to R155: desk supervision is enabled, locked, kept alive, lost and turned off, with a DESK report of each
change. R143 to R145: when DESK_LOSS becomes active or is removed, every channel takes the first source that applies,
by a snap or by a transition from its selected level. Rests on the model's choices of notes/assumptions/5.md,
notes/assumptions/7.md. -/
def Obligations.DeskIsSupervised : Prop :=
  ∀ (s : State) (h : Hdr),
    let own := s.paired.set h.station none
    let rest := fun (t : State) (paired : Vector (Option Paired) 16) (l : List (DeskEvent × Station)) =>
      s.produces t (l.map fun x =>
        .desk { event := x.1, station := x.2, sup := t.os.sup, deskLoss := t.os.deskLoss }) ∧
      t.os = { s.os with sup := t.os.sup, deskLoss := t.os.deskLoss, selections := t.os.selections } ∧
      (t.os.deskLoss = s.os.deskLoss → t.os.selections = s.os.selections ∧ t.le = s.le) ∧
      (t.os.deskLoss ≠ s.os.deskLoss →
        ∀ n : Fin 48, s.reselects t { s.os with deskLoss := t.os.deskLoss } n) ∧
      t = { s with os := t.os, le := { s.le with channels := t.le.channels }, paired, notices := t.notices
                   dl := s.dl.sent t.dl }
    (s.ready → s.admits h.station 1 →
      (∀ w k : Byte, 1 < k.toNat →
        exec (.supervise h w k) s = .next ((s.unpaired h.station).replied h 0x48#8 .eParam [])) ∧
      (∀ w k : Byte, k.toNat ≤ 1 → s.os.sup.enabled = true → max 1 w.toNat ≠ s.os.sup.window →
        exec (.supervise h w k) s = .next ((s.unpaired h.station).replied h 0x48#8 .eLocked [])) ∧
      (∀ w k : Byte, k.toNat ≤ 1 → s.os.sup.enabled = true → max 1 w.toNat = s.os.sup.window →
        ∃ t, exec (.supervise h w k) s = .next t ∧
          rest t own (if k = 1#8 ∧ s.os.sup.locked = false then [(.locked, h.station)] else []) ∧
          t.os.deskLoss = s.os.deskLoss ∧
          t.os.sup = { s.os.sup with locked := s.os.sup.locked || k == 1#8 } ∧ t.notices = s.notices ∧
          t.answers h 0x48#8 .ok (t.os.sup.bytes s.os.deskLoss)) ∧
      (∀ w k : Byte, k.toNat ≤ 1 → s.os.sup.enabled = false →
        ∃ t, exec (.supervise h w k) s = .next t ∧
          rest t own [(if k = 1#8 then .locked else .enabled, h.station)] ∧ t.os.deskLoss = s.os.deskLoss ∧
          t.os.sup = { enabled := true, locked := s.os.sup.locked || k == 1#8, window := max 1 w.toNat,
                       station := some h.station,
                       deadline := some (s.clock + BitVec.ofNat 32 (max 1 w.toNat * 10)) } ∧
          t.notices = s.notices ∧ t.answers h 0x48#8 .ok (t.os.sup.bytes s.os.deskLoss)) ∧
      ((s.os.sup.enabled = false ∨ s.os.deskLoss = true) →
        exec (.forceExpire h) s = .next ((s.unpaired h.station).replied h 0x4A#8 .eNothing [])) ∧
      (s.os.sup.enabled = true → s.os.deskLoss = false →
        ∃ t, exec (.forceExpire h) s = .next t ∧ rest t own [(.lost, h.station)] ∧ t.os.deskLoss = true ∧
          t.os.sup = { s.os.sup with deadline := none } ∧ t.notices = s.notices ++ [.deskLossNotice] ∧
          t.answers h 0x4A#8 .ok []) ∧
      (s.os.sup.enabled = false →
        exec (.superviseOff h) s = .next ((s.unpaired h.station).replied h 0x4B#8 .eNothing [])) ∧
      (s.os.sup.enabled = true → s.os.sup.locked = true →
        exec (.superviseOff h) s = .next ((s.unpaired h.station).replied h 0x4B#8 .eLocked [])) ∧
      (s.os.sup.enabled = true → s.os.sup.locked = false →
        ∃ t, exec (.superviseOff h) s = .next t ∧ rest t own [(.disabled, h.station)] ∧ t.os.deskLoss = false ∧
          t.os.sup = { s.os.sup with enabled := false, station := none, deadline := none } ∧
          t.notices = s.notices ∧ t.answers h 0x4B#8 .ok [])) ∧
    (s.ready → s.stationPresent h.station = true →
      ((s.os.sup.enabled = false ∨ s.os.sup.station ≠ some h.station) →
        exec (.keepalive h) s = .next ((s.unpaired h.station).replied h 0x49#8 .eNothing [])) ∧
      (s.os.sup.enabled = true → s.os.sup.station = some h.station →
        let due := s.clock + BitVec.ofNat 32 (s.os.sup.window * 10)
        ∃ t, exec (.keepalive h) s = .next t ∧
          rest t own (if s.os.deskLoss then [(.restored, h.station)] else []) ∧ t.os.deskLoss = false ∧
          t.os.sup = { s.os.sup with deadline := some due } ∧ t.notices = s.notices ∧
          t.answers h 0x49#8 .ok (clockBytes due))) ∧
    (s.inReset = false → ∀ d, s.os.sup.enabled = true → s.os.deskLoss = false → s.os.sup.deadline = some d →
      (reached s.clock d = false → exec .deskDeadline s = .next s) ∧
      (reached s.clock d = true → ∃ t, exec .deskDeadline s = .next t ∧ rest t s.paired [(.lost, 0)] ∧
        t.os.deskLoss = true ∧
        t.os.sup = { s.os.sup with deadline := none } ∧ t.notices = s.notices ++ [.deskLossNotice]))

/-! ## Call Unit -/

/-- R162, R163 and R164: CALL_NOW and CALL_AT enter one record with an id not in use at its place in the queue, and
are refused when 32 stand. R165 and R173: CALL_CANCEL ends a record of the station's own, or of any station at level 0
or 1, with its CALL report before those of the start scan. Rests on the model's choices of notes/assumptions/18.md. -/
def Obligations.CallsJoinAndAreCancelled : Prop :=
  (∀ (s : State) (h : Hdr) (due : Clock) (kind number repeats : Byte) (zones : List Half) (k : CallKind)
     (xs : List Selector), s.ready → requestKind kind number = some k → 1 ≤ zones.length → zones.length ≤ 8 →
     s.passesAll h.station zones (.house .zone) xs →
     ∀ i code d, (i = Instr.callNow h kind number repeats zones ∧ code = 0x50#8 ∧ d = s.clock) ∨
         (i = Instr.callAt h due kind number repeats zones ∧ code = 0x51#8 ∧ d = due) →
       (32 ≤ s.cu.queue.length → exec i s =
         .next (((s.markAll h.station xs).unpaired h.station).replied h code .eFull [])) ∧
       (s.cu.queue.length < 32 → s.cu.nextEntry ≤ 4294967295 →
         ∃ (t : State) (c : Call) (place : Nat), exec i s = .next t ∧
           (∀ e ∈ s.cu.queue, e.id ≠ c.id) ∧ (s.cu.find s.cu.nextId = none → c.id = s.cu.nextId) ∧
           c = { id := c.id, owner := h.station, origin := .direct, entryNo := s.cu.nextEntry, due := d, kind := k,
                 zones := xs.map fun x => x.index.val, repeats := max 1 (min 5 repeats.toNat), state := .queued,
                 source := none, granted := 0, missed := 0, done := 0, pattern := [], playback := .idle } ∧
           t.cu = { s.cu with queue := insertCall s.clock c s.cu.queue, nextId := c.id + 1,
                              nextEntry := s.cu.nextEntry + 1 } ∧
           t.cu.queue[place]? = some c ∧
           t.answers h code .ok ([c.id] ++ clockBytes d ++ be1 (place + 1)) ∧ s.produces t [] ∧
           t = { s with cu := t.cu, tab := (s.markAll h.station xs).tab, paired := s.paired.set h.station none
                        dl := s.dl.sent t.dl })) ∧
  (∀ (s : State) (h : Hdr) (id : Byte), s.ready → s.stationPresent h.station = true →
     (s.cu.find id = none →
       exec (.callCancel h id) s = .next ((s.unpaired h.station).replied h 0x52#8 .eNothing [])) ∧
     (∀ c, s.cu.find id = some c → c.owner ≠ h.station → 1 < (s.cpl h.station).val →
       exec (.callCancel h id) s = .next ((s.unpaired h.station).replied h 0x52#8 .eAccess [6, 0, 0, 0, 0, 0])) ∧
     (∀ c, s.cu.find id = some c → (c.owner = h.station ∨ (s.cpl h.station).val ≤ 1) →
       ∃ t, exec (.callCancel h id) s = .next t ∧ (∀ d ∈ t.cu.queue, d.id ≠ id) ∧
         (∀ n : Fin 16, t.cu.circuits[n].holder ≠ some (.call id)) ∧
         (∀ i : Fin 2, t.cu.generators[i].holder ≠ some id ∧ t.cu.channels[i].holder ≠ some (.call id)) ∧
         (∀ n : Fin 48, t.cu.flickOwner[n] ≠ some id) ∧
         (∀ dip, c.playback = .dip dip → ∀ n : Fin 48, s.cu.flickOwner[n] = some id →
           Instr.flickNotice n false ∈ t.notices) ∧
         t.answers h 0x52#8 .ok [BitVec.ofNat 8 c.state.ctorIdx] ∧
         s.scansBetween t [s.cu.ended c .cancelled (some .request)] [] ∧
         t = { s with cu := t.cu, notices := t.notices, paired := s.paired.set h.station none
                      dl := s.dl.sent t.dl }))

/-- R158, R171, R173, R174 and R175: a page takes every circuit of its zones that is free or held by a call, and no
other, and gives all back when it is closed or at its limit; the CALL reports of the calls that lose circuits and of
the page. Rests on the model's choices of notes/assumptions/5.md, notes/assumptions/19.md, notes/assumptions/20.md,
notes/assumptions/23.md. -/
def Obligations.PageOpensAndCloses : Prop :=
  ∀ (s : State),
    (∀ (h : Hdr) (zones : List Half) (xs : List Selector), s.ready → 1 ≤ zones.length → zones.length ≤ 8 →
      s.passesAll h.station zones (.house .zone) xs →
      let m := s.tab.resolveCircuits (xs.map fun x => x.index.val)
      let got := s.cu.grantable 2 m
      let refusal := fun c => exec (.pageOpen h zones) s =
        .next (((s.markAll h.station xs).unpaired h.station).replied h 0x54#8 c [])
      (s.cu.page.isSome = true → refusal .eFull) ∧
      (s.cu.page = none → m = 0 → refusal .eNothing) ∧
      (s.cu.page = none → m ≠ 0 → got = 0 → refusal .eStage) ∧
      (s.cu.page = none → m ≠ 0 → got ≠ 0 → ∃ t, exec (.pageOpen h zones) s = .next t ∧
        (let page : Page := { owner := h.station, zones := xs.map fun x => x.index.val, limit := s.clock + 12000#32
                              missed := m &&& ~~~got }
        t.cu.page = some page ∧ ((s.cu.queue.map Call.id).Nodup →
          s.scansBetween t (s.cu.losses s.cu.queue got ++ [page.report .started none got 0]) [])) ∧
        (∀ n : Fin 16, got.getLsbD n = (m.getLsbD n &&
          match s.cu.circuits[n].holder with | none => true | some (.call _) => true | some _ => false)) ∧
        (∀ n : Fin 16, got.getLsbD n = true → t.cu.circuits[n].holder = some .page) ∧
        (∀ n : Fin 16, got.getLsbD n = false →
          (s.cu.circuits[n].holder ≠ some .page → t.cu.circuits[n].holder ≠ some .page) ∧
          (∀ x, s.cu.circuits[n].holder = some x → (∀ id, x ≠ .call id) → t.cu.circuits[n].holder = some x) ∧
          ∀ id, s.cu.circuits[n].holder = some (.call id) →
            t.cu.circuits[n].holder = some (.call id) ∨ ∀ d ∈ t.cu.queue, d.id ≠ id) ∧
        t.answers h 0x54#8 (if m &&& ~~~got = 0 then .ok else .wPartial)
          (circuitBytes got ++ circuitBytes (m &&& ~~~got)) ∧
        t = { s with cu := t.cu, tab := (s.markAll h.station xs).tab, notices := t.notices
                     paired := s.paired.set h.station none, dl := s.dl.sent t.dl })) ∧
    (∀ h : Hdr, s.ready → s.stationPresent h.station = true → s.cu.page = none →
      exec (.pageClose h) s = .next ((s.unpaired h.station).replied h 0x55#8 .eNothing [])) ∧
    (∀ p, s.cu.page = some p →
      let closed := fun (t : State) (paired : Vector (Option Paired) 16) (why : CallReason) =>
        t.cu.page = none ∧ (∀ n : Fin 16, t.cu.circuits[n].holder ≠ some .page) ∧
        (∀ n : Fin 16, ∀ x, s.cu.circuits[n].holder = some x → x ≠ .page → (∀ id, x ≠ .call id) →
          t.cu.circuits[n].holder = some x) ∧
        s.scansBetween t [p.report .done (some why) 0 0] [] ∧
        t = { s with cu := t.cu, notices := t.notices, paired, dl := s.dl.sent t.dl }
      (∀ h : Hdr, s.ready → s.stationPresent h.station = true →
        ∃ t, exec (.pageClose h) s = .next t ∧ closed t (s.paired.set h.station none) .closed ∧
          t.answers h 0x55#8 .ok []) ∧
      (s.inReset = false → reached s.clock p.limit = true →
        ∃ t, exec .pageLimit s = .next t ∧ closed t s.paired .limit) ∧
      (s.inReset = false → reached s.clock p.limit = false → exec .pageLimit s = .next s))

/-- R4, R5, R6, R161, R166 and R170: the circuits, the channel outputs and the staff circuits that zones reach: every
output whose governing CIRCUIT or CHANNEL entry a present zone lists, or every governed one for a whole-house zone.
R166, R168, R169, R170 and R173: a record whose due time is reached, the only one to wait, starts on the
lower-numbered free source with every free circuit of its zones and its STARTED report; while none of the circuits or
no source is free, and in EVACUATE and SILENCED, it waits. Rests on the model's choices of notes/assumptions/7.md,
notes/assumptions/19.md. -/
def Obligations.DueCallStarts : Prop :=
  (∀ (t : Tables) (zones : List Nat),
    (∀ j b, t.bodyAt j = some b ↔ j ≠ 0 ∧ j < t.limit ∧ ∃ hj : j < 128, t.house[j].body = some b) ∧
    (∀ n : Fin 16, (t.resolveCircuits zones).getLsbD n = true ↔
      ∃ i ∈ zones, ∃ z j c, t.bodyAt i = some (.zone z) ∧ (z.wholeHouse = true ∨ j ∈ z.circuits) ∧
        t.bodyAt j = some (.circuit c) ∧ c.output = n.val ∧
        ∀ k < j, ∀ d, t.bodyAt k = some (.circuit d) → d.output ≠ n.val) ∧
    (∀ n : Fin 48, (t.resolveChannels zones).getLsbD n = true ↔
      ∃ i ∈ zones, ∃ z j c, t.bodyAt i = some (.zone z) ∧ (z.wholeHouse = true ∨ j ∈ z.channels) ∧
        t.bodyAt j = some (.channel c) ∧ c.output = n.val ∧
        ∀ k < j, ∀ d, t.bodyAt k = some (.channel d) → d.output ≠ n.val) ∧
    (∀ (zone : Nat) (n : Fin 16), (t.staffCircuits zone).getLsbD n = true ↔
      (t.resolveCircuits [zone]).getLsbD n = true ∧
      ∃ i c, t.bodyAt i = some (.circuit c) ∧ c.output = n.val ∧ c.staff = true ∧
        ∀ j < i, ∀ d, t.bodyAt j = some (.circuit d) → d.output ≠ n.val)) ∧
  ∀ (s : State) (c : Call), s.inReset = false → s.callLaw → c ∈ s.cu.queue → c.state = .queued → c.playback = .idle →
    reached s.clock c.due = true → (∀ d ∈ s.cu.queue, d.state ≠ .waiting) →
    let set := s.tab.resolveCircuits c.zones
    let free := set &&& s.cu.freeCircuits
    (∀ n : Fin 16, s.cu.freeCircuits.getLsbD n = s.cu.circuits[n].holder.isNone) ∧
    s.cu.freeGenerator = (if s.cu.generators[(0 : Fin 2)].holder.isNone then some 0
      else if s.cu.generators[(1 : Fin 2)].holder.isNone then some 1 else none) ∧
    s.cu.freeChannel = (if s.cu.channels[(0 : Fin 2)].holder.isNone then some 0
      else if s.cu.channels[(1 : Fin 2)].holder.isNone then some 1 else none) ∧
    let begun := fun (source : Option (Fin 2)) (granted : CircuitSet) (pattern : List Note) =>
      { c with state := .playing, source, granted, missed := set &&& ~~~granted, pattern }
    let started := fun (x : Call) (owned : Nat) => Report.call
      { subject := .call x owned, event := .started, reason := none, granted := x.granted, missed := x.missed
        lost := 0 }
    ∃ t, exec (.callDue c.id) s = .next t ∧
      ((s.al.stage.clearing = true ∨ (c.kind ≠ .flick ∧ set ≠ 0 ∧ free = 0) ∨
          (∃ p, c.kind = .chime p ∧ set ≠ 0 ∧ s.cu.freeGenerator = none) ∨
          (∃ n, c.kind = .message n ∧ set ≠ 0 ∧ s.cu.freeChannel = none)) →
        t = s.setCall { c with state := .waiting }) ∧
      (s.al.stage.clearing = false → c.kind ≠ .flick → set = 0 →
        (∀ d ∈ t.cu.queue, d.id ≠ c.id) ∧ t.notices = s.notices ++ [.callAbandonedNotice] ∧
        s.produces t [s.cu.ended { c with state := .waiting } .abandoned (some .noCircuits)]) ∧
      (∀ p i n rest, s.al.stage.clearing = false → c.kind = .chime p → s.cu.freeGenerator = some i → free ≠ 0 →
        s.tab.pattern p = n :: rest →
        (∀ k : Fin 16, t.cu.circuits[k].holder =
          if free.getLsbD k then some (.call c.id) else s.cu.circuits[k].holder) ∧
        t.cu.generators[i] = { holder := some c.id, note := some n } ∧
        s.produces t [started (begun (some i) free (n :: rest)) 0] ∧
        { c with state := .playing, source := some i, granted := free, missed := set &&& ~~~free,
                 pattern := n :: rest, playback := .note rest (s.clock + n.ticks) } ∈ t.cu.queue) ∧
      (∀ number i, s.al.stage.clearing = false → c.kind = .message number → s.cu.freeChannel = some i →
        free ≠ 0 →
        (∀ k : Fin 16, t.cu.circuits[k].holder =
          if free.getLsbD k then some (.call c.id) else s.cu.circuits[k].holder) ∧
        t.cu.channels[i] = { holder := some (.call c.id), trigger := true, number,
                             limit := some (s.clock + 12000#32) } ∧
        s.produces t [started (begun (some i) free []) 0] ∧
        { c with state := .playing, source := some i, granted := free, missed := set &&& ~~~free,
                 pattern := [], playback := .message } ∈ t.cu.queue) ∧
      (s.al.stage.clearing = false → c.kind = .flick →
        (∀ k : Fin 48, t.cu.flickOwner[k] =
          if (s.tab.resolveChannels c.zones).getLsbD k then some c.id else s.cu.flickOwner[k]) ∧
        t.cu.circuits = s.cu.circuits ∧
        s.produces t [started
          { c with state := .playing, source := none, granted := 0, missed := 0, pattern := [] }
          (t.cu.owned c.id).length] ∧
        { c with state := .playing, source := none, granted := 0, missed := 0, pattern := [],
                 playback := .dip (s.clock + 50#32) } ∈ t.cu.queue ∧
        ∀ k : Fin 48, (s.tab.resolveChannels c.zones).getLsbD k = true →
          Instr.flickNotice k true ∈ t.notices) ∧
      t = { s with cu := t.cu, notices := t.notices, dl := s.dl.reported t.dl }

/-- R166: after a start scan outside EVACUATE and SILENCED, no record waits that could start. Rests on the model's
choices of notes/assumptions/19.md. -/
def Obligations.ScanLeavesNoneThatCouldStart : Prop :=
  ∀ s : State, s.callLaw → s.al.stage.clearing = false →
    ∀ c ∈ s.scan.cu.queue, c.state = .waiting →
      c.kind ≠ .flick ∧ s.tab.resolveCircuits c.zones ≠ 0 ∧
      (∀ p, c.kind = .chime p → s.scan.cu.freeGenerator = none ∨
        s.tab.resolveCircuits c.zones &&& s.scan.cu.freeCircuits = 0) ∧
      (∀ n, c.kind = .message n → s.scan.cu.freeChannel = none ∨
        s.tab.resolveCircuits c.zones &&& s.scan.cu.freeCircuits = 0)

/-- R157, R166, R167, R172 and R173: a call that has waited 60 s is given up, and the notices of a stage and of a
phase start a scan after their own effect, each with its CALL reports. Rests on the model's choices of
notes/assumptions/5.md, notes/assumptions/7.md, notes/assumptions/20.md. -/
def Obligations.CallUnitTakesNotices : Prop :=
  ∀ (s : State), s.inReset = false →
    let rest := fun t : State => t = { s with cu := t.cu, notices := t.notices, dl := s.dl.reported t.dl }
    (∀ c, s.cu.find c.id = some c → c.state = .waiting → reached s.clock (c.due + 6000#32) = true →
      ∃ t, exec (.callStale c.id) s = .next t ∧ rest t ∧ (∀ d ∈ t.cu.queue, d.id ≠ c.id) ∧
        Instr.callAbandonedNotice ∈ t.notices ∧ s.scansBetween t [s.cu.ended c .abandoned (some .stale)] []) ∧
    (∀ c, s.cu.find c.id = some c → (c.state ≠ .waiting ∨ reached s.clock (c.due + 6000#32) = false) →
      exec (.callStale c.id) s = .next s) ∧
    (s.al.stage.clearing = false → exec .stageChangeNotice s = .next (s.takeNotice .stageChangeNotice).scan) ∧
    (s.al.stage.clearing = true → ∃ t, exec .stageChangeNotice s = .next t ∧ rest t ∧
      (∀ c ∈ t.cu.queue, ∀ d, c.playback ≠ .back d) ∧
      ∀ c ∈ s.cu.queue, (∀ d ∈ s.cu.queue, d.id = c.id → ∀ e, d.playback ≠ .back e) → c ∈ t.cu.queue) ∧
    (s.al.stage.clearing = true → (s.cu.queue.map Call.id).Nodup → ∀ t, exec .stageChangeNotice s = .next t →
      s.produces t ((s.cu.queue.filter fun c => match c.playback with | .back _ => true | _ => false).map fun c =>
        s.cu.ended c .abandoned (some .evacuation))) ∧
    (∃ t, exec .phaseChangeNotice s = .next t ∧ rest t ∧ s.scansBetween t [] [] ∧
      ∀ n : Fin 16, t.cu.circuits[n].holder = none → t.cu.circuits[n].programme =
        (decide (s.perf.phase = .act) && ((s.tab.circuitEntry n).map fun e => e.2.programme).getD false))

/-- R158, R159, R160, R172, R173 and R175: the evacuation message takes channel 0 and all sixteen circuits, ends every
sounding call and the page with their CALL reports, and gives all back when it stops. Rests on the model's choices of
notes/assumptions/7.md, notes/assumptions/19.md, notes/assumptions/20.md, notes/assumptions/23.md,
notes/assumptions/33.md. -/
def Obligations.EvacuationMessageTakesAll : Prop :=
  ∀ (s : State), s.inReset = false →
    let rest := fun t : State => t = { s with cu := t.cu, notices := t.notices, dl := s.dl.reported t.dl }
    (∀ number, ∃ t, exec (.evacuationMessageStart number) s = .next t ∧ rest t ∧
      (∀ n : Fin 16, t.cu.circuits[n].holder = some .evacuation) ∧
      t.cu.channels[0] = { holder := some .evacuation, trigger := true, number,
                           limit := some (s.clock + 12000#32) } ∧
      t.cu.evacuation = some number ∧ (∀ c ∈ t.cu.queue, c.sounding = false) ∧
      (s.cu.heldBy .page ≠ 0 → t.cu.page = none) ∧
      ((s.cu.queue.map Call.id).Nodup →
        let zero : List Call := match s.cu.channels[0].holder with
          | some (.call id) => (s.cu.find id).toList
          | _ => []
        let cut := fun c : Call => s.cu.ended { c with granted := 0, missed := c.missed ||| c.granted } .abandoned
          (some .evacuation)
        let others := s.cu.queue.filter fun c => zero.all fun d => d.id != c.id
        let between := fun c : Call => !c.sounding && match c.playback with | .back _ => true | _ => false
        s.scansBetween t (zero.map cut ++ (others.filter Call.sounding).map cut ++
          s.cu.pageLoss (BitVec.allOnes 16) ++
          if s.al.stage.clearing then (others.filter between).map fun c => s.cu.ended c .abandoned (some .evacuation)
            else []) [])) ∧
    (s.cu.evacuation = none → exec .evacuationMessageStop s = .next (s.takeNotice .evacuationMessageStop)) ∧
    (s.cu.evacuation.isSome = true → ∃ t, exec .evacuationMessageStop s = .next t ∧ rest t ∧
      s.scansBetween t [] [] ∧ t.cu.evacuation = none ∧ (∀ n : Fin 16, t.cu.circuits[n].holder ≠ some .evacuation) ∧
      ∀ i : Fin 2, t.cu.channels[i].holder ≠ some .evacuation)

/-- R158, R159, R161, R171, R173 and R175: the staff call plays on channel 1 to the staff circuits of its zone every
20 s until it is stopped, with the CALL reports of what it takes them from; with no message or no staff circuit it
takes nothing. Rests on the model's choices of notes/assumptions/5.md, notes/assumptions/7.md,
notes/assumptions/19.md, notes/assumptions/20.md, notes/assumptions/23.md, notes/assumptions/31.md,
notes/assumptions/33.md. -/
def Obligations.StaffCallPlays : Prop :=
  ∀ (s : State), s.inReset = false →
    let rest := fun t : State => t = { s with cu := t.cu, notices := t.notices, dl := s.dl.reported t.dl }
    let free := fun t : State => (∀ n : Fin 16, t.cu.circuits[n].holder ≠ some .staffCall) ∧
      ∀ i : Fin 2, t.cu.channels[i].holder ≠ some .staffCall
    let play : MessageChannel → Nat → Prop := fun c number =>
      c = { holder := some .staffCall, trigger := true, number, limit := some (s.clock + 12000#32) }
    (∀ zone message, (message = none ∨ s.tab.staffCircuits zone = 0) →
      ∃ t, exec (.staffCallStart zone message) s = .next t ∧ rest t ∧ free t ∧ s.scansBetween t [] [] ∧
        t.cu.staff = some { zone, message := none, repeatDue := none, again := false }) ∧
    (∀ zone number, s.tab.staffCircuits zone ≠ 0 →
      ∃ t, exec (.staffCallStart zone (some number)) s = .next t ∧ rest t ∧ play t.cu.channels[1] number ∧
        t.cu.staff = some { zone, message := some number, repeatDue := some (s.clock + 2000#32), again := false } ∧
        ((s.cu.queue.map Call.id).Nodup →
          let cut : List Call := match s.cu.channels[1].holder with
            | some (.call id) => (s.cu.find id).toList
            | _ => []
          let got := circuitSetOf fun n =>
            (s.tab.staffCircuits zone).getLsbD n && decide (s.cu.circuits[n].holder ≠ some .evacuation)
          s.scansBetween t (cut.map (fun c => s.cu.ended c .abandoned (some .preempted)) ++
            s.cu.losses (s.cu.queue.filter fun c => cut.all fun d => d.id != c.id) got ++ s.cu.pageLoss got) []) ∧
        ∀ n : Fin 16, (s.tab.staffCircuits zone).getLsbD n = true → s.cu.circuits[n].holder ≠ some .evacuation →
          t.cu.circuits[n].holder = some .staffCall) ∧
    (s.cu.staff.isSome = true → ∃ t, exec .staffCallStop s = .next t ∧ rest t ∧ free t ∧ t.cu.staff = none ∧
      s.scansBetween t [] []) ∧
    (s.cu.staff = none → exec .staffCallStop s = .next (s.takeNotice .staffCallStop)) ∧
    (∀ x d number, s.cu.staff = some x → x.repeatDue = some d → x.message = some number →
      (reached s.clock d = false → exec .staffRepeatDue s = .next s) ∧
      (reached s.clock d = true → s.cu.channels[1].trigger = true → exec .staffRepeatDue s =
        .next (s.setStaff (some { x with repeatDue := none, again := true }))) ∧
      (reached s.clock d = true → s.cu.channels[1].trigger = false →
        ∃ t, exec .staffRepeatDue s = .next t ∧ rest t ∧ play t.cu.channels[1] number ∧
          t.cu.staff = some { x with repeatDue := some (s.clock + 2000#32), again := false } ∧
          t.cu.circuits = s.cu.circuits ∧ t.cu.queue = s.cu.queue ∧ s.produces t []))

/-- R159, R160, R161 and R169: the end of a play, by its end signal or by its limit. R168 and R169: the notes of a
chime follow each other, a repeat follows 1 s of silence, and the last ends the call; a message is repeated after the
same silence. R173: the CALL report of a call that ends. Rests on the model's choices of notes/assumptions/5.md. -/
def Obligations.PlaysEndAndRepeat : Prop :=
  (∀ (s : State) (i : Fin 2), s.inReset = false →
     let rest := fun t : State => t = { s with cu := t.cu, notices := t.notices, dl := s.dl.reported t.dl }
     let stopped := { s.cu.channels[i] with trigger := false, limit := none }
     (s.cu.channels[i].trigger = false → exec (.messageEndSignal i) s = .next s ∧ exec (.playLimit i) s = .next s) ∧
     (∀ d, s.cu.channels[i].limit = some d → reached s.clock d = false → exec (.playLimit i) s = .next s) ∧
     (s.cu.channels[i].trigger = true →
       (∀ id c, s.cu.channels[i].holder = some (.call id) → s.cu.find id = some c → c.done + 1 < c.repeats →
         exec (.messageEndSignal i) s = .next ((s.setChannel i stopped).setCall
           { c with done := c.done + 1, playback := .gap (s.clock + 100#32) })) ∧
       (∀ id c, s.cu.channels[i].holder = some (.call id) → s.cu.find id = some c → c.repeats ≤ c.done + 1 →
         ∃ t, exec (.messageEndSignal i) s = .next t ∧ rest t ∧ (∀ d ∈ t.cu.queue, d.id ≠ id) ∧
           s.scansBetween t [s.cu.ended { c with done := c.done + 1 } .done none] []) ∧
       (∀ id c d, s.cu.channels[i].holder = some (.call id) → s.cu.find id = some c →
         s.cu.channels[i].limit = some d → reached s.clock d = true →
         ∃ t, exec (.playLimit i) s = .next t ∧ rest t ∧ (∀ d ∈ t.cu.queue, d.id ≠ id) ∧
           Instr.callAbandonedNotice ∈ t.notices ∧
           s.scansBetween t [s.cu.ended c .abandoned (some .player)] []) ∧
       ∀ e : Instr, (e = .messageEndSignal i ∨
           (e = .playLimit i ∧ ∃ d, s.cu.channels[i].limit = some d ∧ reached s.clock d = true)) →
         (s.cu.channels[i].holder = some .evacuation → exec e s = .next (s.setChannel i
           { holder := some .evacuation, trigger := true, number := s.cu.channels[i].number,
             limit := some (s.clock + 12000#32) })) ∧
         (∀ x number, s.cu.channels[i].holder = some .staffCall → s.cu.staff = some x → x.message = some number →
           (x.again = false → exec e s = .next (s.setChannel i stopped)) ∧
           (x.again = true → ∃ t, exec e s = .next t ∧ rest t ∧ s.produces t [] ∧
             t.cu.channels[1] = { holder := some .staffCall, trigger := true, number,
                                  limit := some (s.clock + 12000#32) } ∧
             t.cu.staff = some { x with repeatDue := some (s.clock + 2000#32), again := false })))) ∧
  (∀ (s : State) (i : Fin 2) (c : Call), s.inReset = false →
     let rest := fun t : State => t = { s with cu := t.cu, notices := t.notices, dl := s.dl.reported t.dl }
     (∀ l due, s.cu.generators[i].holder = some c.id → s.cu.find c.id = some c → c.playback = .note l due →
       (reached s.clock due = false → exec (.chimeNoteEnd i) s = .next s) ∧
       (∀ n more, reached s.clock due = true → l = n :: more →
         exec (.chimeNoteEnd i) s = .next ((s.setGenerator i { holder := some c.id, note := some n }).setCall
           { c with playback := .note more (s.clock + BitVec.ofNat 32 (5 * n.duration)) })) ∧
       (reached s.clock due = true → l = [] → c.done + 1 < c.repeats →
         exec (.chimeNoteEnd i) s = .next ((s.setGenerator i { holder := some c.id, note := none }).setCall
           { c with done := c.done + 1, playback := .gap (s.clock + 100#32) })) ∧
       (reached s.clock due = true → l = [] → c.repeats ≤ c.done + 1 →
         ∃ t, exec (.chimeNoteEnd i) s = .next t ∧ rest t ∧ (∀ d ∈ t.cu.queue, d.id ≠ c.id) ∧
           s.scansBetween t [s.cu.ended { c with done := c.done + 1 } .done none] [] ∧
           ∀ n : Fin 16, t.cu.circuits[n].holder ≠ some (.call c.id))) ∧
     (∀ due n more, s.cu.generators[i].holder = some c.id → s.cu.find c.id = some c → c.playback = .gap due →
       c.pattern = n :: more →
       exec (.chimeRepeatGapEnd i) s = .next (if reached s.clock due then
         (s.setGenerator i { holder := some c.id, note := some n }).setCall
           { c with playback := .note more (s.clock + BitVec.ofNat 32 (5 * n.duration)) }
         else s)) ∧
     (∀ due number, s.cu.channels[i].holder = some (.call c.id) → s.cu.find c.id = some c →
       c.playback = .gap due → c.kind = .message number →
       exec (.messageRepeatGapEnd i) s = .next (if reached s.clock due then
         (s.setChannel i { holder := some (.call c.id), trigger := true, number,
                           limit := some (s.clock + 12000#32) }).setCall { c with playback := .message }
         else s)))

/-- R149, R170, R172 and R173: a dip ends with its notices and is followed by as long a return, the next dip follows,
and the last return ends the call with its CALL report; in EVACUATE and SILENCED the call is given up instead. Rests
on the model's choices of notes/assumptions/5.md, notes/assumptions/7.md, notes/assumptions/20.md. -/
def Obligations.FlicksDipAndReturn : Prop :=
  ∀ (s : State) (c : Call) (due : Clock), s.inReset = false → s.cu.find c.id = some c →
    let rest := fun t : State => t = { s with cu := t.cu, notices := t.notices, dl := s.dl.reported t.dl }
    (c.playback = .dip due →
      (reached s.clock due = false → exec (.flickDipEnd c.id) s = .next s) ∧
      (reached s.clock due = true → s.al.stage.clearing = false →
        ∃ t, exec (.flickDipEnd c.id) s = .next t ∧
          t.notices = s.notices ++ (s.cu.owned c.id).map (fun n => Instr.flickNotice n false) ∧
          t.cu = (s.setCall { c with playback := .back (s.clock + 50#32) }).cu ∧ rest t ∧ t.dl = s.dl) ∧
      (reached s.clock due = true → s.al.stage.clearing = true →
        ∃ t, exec (.flickDipEnd c.id) s = .next t ∧ rest t ∧ (∀ d ∈ t.cu.queue, d.id ≠ c.id) ∧
          s.produces t [s.cu.ended { c with playback := .back (s.clock + 50#32) } .abandoned (some .evacuation)] ∧
          t.notices = s.notices ++ (s.cu.owned c.id).map (fun n => Instr.flickNotice n false) ++
            [.callAbandonedNotice])) ∧
    (c.playback = .back due →
      (reached s.clock due = false → exec (.flickRepeatEnd c.id) s = .next s) ∧
      (reached s.clock due = true → s.al.stage.clearing = false → c.done + 1 < c.repeats →
        ∃ t, exec (.flickRepeatEnd c.id) s = .next t ∧
          t.notices = s.notices ++ (s.cu.owned c.id).map (fun n => Instr.flickNotice n true) ∧
          t.cu = (s.setCall { c with done := c.done + 1, playback := .dip (s.clock + 50#32) }).cu ∧ rest t ∧
          t.dl = s.dl) ∧
      (reached s.clock due = true → (s.al.stage.clearing = true ∨ c.repeats ≤ c.done + 1) →
        ∃ t, exec (.flickRepeatEnd c.id) s = .next t ∧ rest t ∧ (∀ d ∈ t.cu.queue, d.id ≠ c.id) ∧
          s.scansBetween t [if s.al.stage.clearing then
              s.cu.ended { c with done := c.done + 1 } .abandoned (some .evacuation)
            else s.cu.ended { c with done := c.done + 1 } .done none] [] ∧
          ∀ n : Fin 48, t.cu.flickOwner[n] ≠ some c.id))

/-! ## Image and Maintenance -/

/-- R89, R125, R199 and R201: the load ends with the image's tables, its start levels and its cycle length, which the
lines follow, or with the default tables and a reason, and START follows. Rests on the model's choices of
notes/assumptions/5.md, notes/assumptions/12.md, notes/assumptions/13.md. -/
def Obligations.ImageLoadEnds : Prop :=
  ∀ (s : State), s.inReset = false →
    (s.im.starting = false → ∀ r, exec (.imageLoadEnd r) s = .next s ∧ exec .loadTimeout s = .next s) ∧
    (s.im.starting = true → ∀ r t, s.im.img = true → loadImage r = .valid t →
      ∃ u, exec (.imageLoadEnd r) s = .next u ∧ u.tab = t.clearUsed ∧
        u.im = { s.im with starting := false, loadDue := none, valid := true, reason := none } ∧
        u.le.pendingCycle = some t.params.cycle ∧
        (∀ n : Fin 48, ∀ b, t.governing n = some b →
          u.le.channels[n].primary = b.start ∧ u.le.channels[n].fade = none) ∧
        (∀ n : Fin 48, t.governing n = none → u.le.channels[n].primary = s.le.channels[n].primary) ∧
        u.dl.reports.head?.map Queued.report = some (.start true none s.im.lr true t.limit t.stationCount) ∧
        (∃ more : List Report, (∀ r ∈ more, r.ofScan) ∧ u.dl.reports =
          ((s.dl.addReports s.clock (s.lineLosses t ++ more)).addStart s.clock
            (.start true none s.im.lr true t.limit t.stationCount)).reports) ∧
        s.linesFollow u t ∧
        u.al = { s.al with lines := u.al.lines } ∧
        u.le = { s.le with channels := u.le.channels, pendingCycle := u.le.pendingCycle } ∧
        u.os = { s.os with selections := u.os.selections } ∧
        u = { s with tab := u.tab, al := u.al, le := u.le, os := u.os, cu := u.cu, im := u.im
                     notices := u.notices, dl := s.dl.reported u.dl }) ∧
    (s.im.starting = true →
      let failed := fun (u : State) (x : DefaultReason) =>
        u = ({ s with
          im := { s.im with starting := false, loadDue := none, valid := false, reason := some x }
          dl := s.dl.addStart s.clock
            (.start false (some x) s.im.lr s.im.img s.tab.limit s.tab.stationCount) } : State)
      (s.im.img = false → ∀ r, ∃ u, exec (.imageLoadEnd r) s = .next u ∧ failed u .absent) ∧
      (∀ r x, s.im.img = true → loadImage r = .default x →
        ∃ u, exec (.imageLoadEnd r) s = .next u ∧ failed u x) ∧
      (∀ d, s.im.img = true → s.im.loadDue = some d → reached s.clock d = true →
        ∃ u, exec .loadTimeout s = .next u ∧ failed u .noResponse))

/-- R199 and R202: the image that a commit writes is read back as the tables it was made from. -/
def Obligations.ImageRoundTrip : Prop :=
  ∀ t : Tables, t.law → t.commitFault = none → (encodeImage t).length ≤ 65536 →
    ∃ u, loadImage (some (encodeImage t)) = .valid u ∧ u.stations = t.stations ∧ u.limit = t.limit ∧
      (∀ i : Fin 128, i.val < t.limit → u.house[i] = t.house[i].clearUsed) ∧
      (∀ i : Fin 128, t.limit ≤ i.val → u.house[i].present = false) ∧
      (∀ st : Station, st ≠ 0 → ∀ i : Fin 16, u.locals[st][i] = t.locals[st][i].clearUsed) ∧
      u.patterns = t.patterns ∧ u.params = t.params

/-- R202: COMMISSION_BEGIN and COMMIT make their tests in order; the write ends with a valid image and CLOSED, or
failed and OPEN. Rests on the model's choices of notes/assumptions/5.md, notes/assumptions/7.md,
notes/assumptions/14.md. -/
def Obligations.CommissioningCommits : Prop :=
  ∀ (s : State) (h : Hdr),
    (s.ready → s.admits h.station 0 →
      let refuse := fun (i : Instr) (code : Byte) (x : Status) (d : List Byte) =>
        exec i s = .next ((s.unpaired h.station).replied h code x d)
      (s.im.busy = true → refuse (.commissionBegin h) 0x60 .eBusy [] ∧ refuse (.commit h) 0x64 .eBusy [] ∧
        refuse (.abort h) 0x65 .eBusy []) ∧
      (s.im.comm = .opened → refuse (.commissionBegin h) 0x60 .eCommission []) ∧
      (s.im.comm = .closed → refuse (.commit h) 0x64 .eCommission [] ∧ refuse (.abort h) 0x65 .eCommission []) ∧
      (s.im.comm = .closed → s.perf.phase ≠ .dark → refuse (.commissionBegin h) 0x60 .ePhase []) ∧
      (s.im.comm = .closed → s.perf.phase = .dark → s.al.stage ≠ .quiet →
        refuse (.commissionBegin h) 0x60 .eStage []) ∧
      (s.im.comm = .closed → s.perf.phase = .dark → s.al.stage = .quiet → s.cc.state.moving = true →
        refuse (.commissionBegin h) 0x60 .eMotion []) ∧
      (s.im.comm = .closed → s.perf.phase = .dark → s.al.stage = .quiet → s.cc.state.moving = false →
        exec (.commissionBegin h) s = .next (State.replied h 0x60#8 .ok []
          { s.unpaired h.station with im := { s.im with comm := .opened, work := none } })) ∧
      (s.im.comm = .opened → s.im.img = false → refuse (.commit h) 0x64 .eCommission []) ∧
      (∀ c i, s.im.comm = .opened → s.im.img = true → s.tab.commitFault = some (c, i) →
        refuse (.commit h) 0x64 .eParam [BitVec.ofNat 8 c.ctorIdx, 0, 0, BitVec.ofNat 8 i]) ∧
      (s.im.comm = .opened → s.im.img = true → s.tab.commitFault = none →
        exec (.commit h) s = .next (State.replied h 0x64#8 .ok []
          (s.unpaired h.station |>.setComm .writing (some
            { station := h.station, due := s.clock + 1000#32, image := encodeImage s.tab })))) ∧
      (s.im.comm = .opened →
        exec (.abort h) s = .next (State.replied h 0x65#8 .ok []
          (s.unpaired h.station |>.setComm .reloading (some
            { station := h.station, due := s.clock + 500#32, image := [] }))))) ∧
    (s.inReset = false → s.im.comm = .writing → ∀ w, s.im.work = some w →
      let failed := fun x : ImageReason => State.addReport (.image .failed (some x) s.im.valid .opened w.station)
        { s with im := { s.im with comm := .opened, work := none } }
      exec (.commitWriteEnd none) s = .next (failed .noAnswer) ∧
      (∀ l, l ≠ w.image → exec (.commitWriteEnd (some l)) s = .next (failed .verify)) ∧
      exec (.commitWriteEnd (some w.image)) s = .next
        { State.addReport (.image .written none true .closed w.station) s with
          im := { s.im with comm := .closed, work := none, valid := true, reason := none }
          notices := s.notices ++ [.tableChangeNotice] } ∧
      exec .commitTimeout s = .next (if reached s.clock w.due then failed .noAnswer else s)) ∧
    (s.inReset = false → s.im.comm ≠ .writing →
      (∀ r, exec (.commitWriteEnd r) s = .next s) ∧ exec .commitTimeout s = .next s)

/-- R203: a reload replaces the live tables by the image's, but for the stored cycle length, or by the default ones
and closes commissioning. R89, R91 and R116: the lines and a standing entry's curtain trigger follow the new tables.
Rests on the model's choices of notes/assumptions/5.md, notes/assumptions/7.md, notes/assumptions/13.md. -/
def Obligations.ReloadReplacesTables : Prop :=
  ∀ (s : State), s.inReset = false → s.im.comm = .reloading → ∀ w, s.im.work = some w →
    let reloaded := fun (u : State) (t : Tables) (x : Option DefaultReason) =>
      u.tab = t.clearUsed ∧
      u.im = { s.im with comm := .closed, work := none, valid := x.isNone, reason := x } ∧
      s.linesFollow u t ∧ s.produces u (s.lineLosses t ++
        [.image .reloaded (x.map ImageReason.default) x.isNone .closed w.station]) ∧
      (∀ st : Station, u.paired[st] = if t.stations[st].present then s.paired[st] else none) ∧
      (∀ st : Station, u.le.cues[st] = none) ∧ u.le.channels = s.le.channels ∧
      u.le.pendingCycle = s.le.pendingCycle ∧ u.notices = s.notices ++ s.triggerGained t ++ [.tableChangeNotice] ∧
      u = { s with tab := u.tab, al := { s.al with lines := u.al.lines }, le := { s.le with cues := u.le.cues }
                   paired := u.paired, im := u.im, notices := u.notices, dl := s.dl.reported u.dl }
    (s.im.img = false → ∀ r, ∃ u, exec (.reloadEnd r) s = .next u ∧ reloaded u Tables.default (some .absent)) ∧
    (∀ r t, s.im.img = true → loadImage r = .valid t →
      ∃ u, exec (.reloadEnd r) s = .next u ∧
        reloaded u { t with params := { t.params with cycle := s.tab.params.cycle } } none) ∧
    (∀ r x, s.im.img = true → loadImage r = .default x →
      ∃ u, exec (.reloadEnd r) s = .next u ∧ reloaded u Tables.default (some x)) ∧
    (s.im.img = true → reached s.clock w.due = true →
      ∃ u, exec .reloadTimeout s = .next u ∧ reloaded u Tables.default (some .noResponse)) ∧
    ((s.im.img = false ∨ reached s.clock w.due = false) → exec .reloadTimeout s = .next s)

/-- R148, R179 and R204: a commissioning write changes its own part of the tables at once, drops every pending cue and
is told to the other blocks. R89, R91 and R116: the lines and a standing entry's curtain trigger follow the new
tables. R13 to R15: WRITE_OBJECT fails for reserved selector bits, NULL or LIMIT, whatever the level its selector asks
for. R22: a station made not present loses its paired record, and no other one does but the requester's. R18: the used
flag of the present entry that a write names is set, also where the write is refused. R202: a write outside OPEN is
refused. Rests on the model's choices of notes/assumptions/7.md, notes/assumptions/15.md, notes/assumptions/17.md. -/
def Obligations.WritesChangeTables : Prop :=
  ∀ (s : State) (h : Hdr), s.ready → s.admits h.station 0 →
    let used := fun i : Fin 128 => if (s.tab.house? i.val).isSome then s.markHouse i.val else s
    let usedLocal := fun (st : Station) (i : Fin 16) =>
      if (s.tab.local? st i.val).isSome then s.markLocal st i.val else s
    let inHouse := fun (rpl : Level) (i : Nat) => BitVec.ofNat 16 (256 * rpl.val + i)
    let inLocal := fun (rpl : Level) (i : Nat) => 0x8000#16 + BitVec.ofNat 16 (256 * rpl.val + i)
    let denied := fun (target : Byte) (object : Half) (record : List Byte) => ∀ header body,
      exec (.writeObject h target object header body) s =
        .next ((s.unpaired h.station).replied h 0x61#8 .eAccess record)
    (∀ object : Half, object.extractLsb' 10 5 ≠ 0 → ∀ target header body,
      exec (.writeObject h target object header body) s =
        .next ((s.unpaired h.station).replied h 0x61#8 .eParam [])) ∧
    (∀ rpl target, denied target (inHouse rpl 0) [2, 0, 0, 0, 0, 0]) ∧
    (∀ rpl target, ∀ i : Fin 256, i ≠ 0 → s.tab.limit ≤ i.val →
      denied target (inHouse rpl i.val) [3, 0, BitVec.ofNat 8 i.val, 0, 0, 0]) ∧
    (∀ rpl target, ∀ i : Fin 256, 16 ≤ i.val →
      denied target (inLocal rpl i.val) [3, 1, BitVec.ofNat 8 i.val, 0, 0, 0]) ∧
    (s.im.comm ≠ .opened →
      let refuse := fun (i : Instr) (code : Byte) (u : State) => exec i s =
        .next ((u.unpaired h.station).replied h code (if s.im.comm = .closed then .eCommission else .eBusy) [])
      (∀ i : Fin 128, i ≠ 0 → i.val < s.tab.limit → ∀ rpl header body,
        refuse (.writeObject h 0 (inHouse rpl i.val) header body) 0x61 (used i)) ∧
      (∀ st : Station, st ≠ 0 → ∀ i : Fin 16, ∀ rpl header body,
        refuse (.writeObject h (BitVec.ofNat 8 st.val) (inLocal rpl i.val) header body) 0x61 (usedLocal st i)) ∧
      (∀ n p c, refuse (.writeStation h n p c) 0x62 s) ∧
      (∀ a b c d e, refuse (.writeParamsSection0 h a b c d e) 0x63 s) ∧
      (∀ p l, refuse (.writeParamsSection1 h p l) 0x63 s)) ∧
    (s.im.comm = .opened →
    let own := s.paired.set h.station none
    let wrote := fun (i : Instr) (code : Byte) (tab : Tables) (paired : Vector (Option Paired) 16) =>
      ∃ t, exec i s = .next t ∧ t.tab = tab ∧ t.paired = paired ∧
      (∀ st : Station, t.le.cues[st] = none) ∧ t.notices = s.notices ++ s.triggerGained tab ++ [.tableChangeNotice] ∧
      s.linesFollow t tab ∧ s.produces t (s.lineLosses tab) ∧ t.answers h code .ok [] ∧
      t = { s with tab := tab, al := { s.al with lines := t.al.lines }, le := { s.le with cues := t.le.cues }
                   paired := paired, notices := t.notices, dl := s.dl.sent t.dl }
    let refused := fun (i : Instr) (code : Byte) (x : Status) (d : List Byte) =>
      exec i s = .next ((s.unpaired h.station).replied h code x d)
    (∀ i : Fin 128, i ≠ 0 → i.val < s.tab.limit → ∀ rpl header body e,
      getEntry false (halfBytes header ++ body) = some (e, []) →
      wrote (.writeObject h 0 (inHouse rpl i.val) header body) 0x61
        { s.tab with house := s.tab.house.set i e } own) ∧
    (∀ st : Station, st ≠ 0 → ∀ i : Fin 16, ∀ rpl header body e,
      getEntry true (halfBytes header ++ body) = some (e, []) →
      wrote (.writeObject h (BitVec.ofNat 8 st.val) (inLocal rpl i.val) header body) 0x61
        { s.tab with locals := s.tab.locals.set st (s.tab.locals[st].set i e) } own) ∧
    (∀ i : Fin 128, i ≠ 0 → i.val < s.tab.limit → ∀ (target : Byte) rpl header body,
      (target ≠ 0 ∨ ∀ e, getEntry false (halfBytes header ++ body) ≠ some (e, [])) →
      exec (.writeObject h target (inHouse rpl i.val) header body) s =
        .next (((used i).unpaired h.station).replied h 0x61 .eParam [])) ∧
    (∀ st : Station, st ≠ 0 → ∀ i : Fin 16, ∀ rpl header body,
      (∀ e, getEntry true (halfBytes header ++ body) ≠ some (e, [])) →
      exec (.writeObject h (BitVec.ofNat 8 st.val) (inLocal rpl i.val) header body) s =
        .next (((usedLocal st i).unpaired h.station).replied h 0x61 .eParam [])) ∧
    (∀ target : Byte, (target = 0 ∨ 15 < target.toNat) → ∀ i : Fin 16, ∀ rpl header body,
      refused (.writeObject h target (inLocal rpl i.val) header body) 0x61 .eParam []) ∧
    (∀ n : Station, ∀ present : Bool, ∀ l : Level, (n = 0 → present = false) →
      wrote (.writeStation h (BitVec.ofNat 8 n.val) (if present then 1 else 0) (BitVec.ofNat 8 l.val)) 0x62
        { s.tab with stations := s.tab.stations.set n { present, cpl := l } }
        (if present then own else own.set n none)) ∧
    (∀ n p c : Byte, (15 < n.toNat ∨ 1 < p.toNat ∨ 3 < c.toNat ∨ (n = 0 ∧ p = 1)) →
      refused (.writeStation h n p c) 0x62 .eParam []) ∧
    (∀ (limit tAck : Byte) (tInv : Half) (message cycle : Byte),
      let ok := 1 ≤ limit.toNat ∧ limit.toNat ≤ 128 ∧ 10 ≤ tAck.toNat ∧ tAck.toNat ≤ 120 ∧ 60 ≤ tInv.toNat ∧
        tInv.toNat ≤ 600 ∧ message ≠ 0 ∧ 8 ≤ cycle.toNat ∧ cycle.toNat ≤ 11
      (¬ok → refused (.writeParamsSection0 h limit tAck tInv message cycle) 0x63 .eParam []) ∧
      (ok → wrote (.writeParamsSection0 h limit tAck tInv message cycle) 0x63 { s.tab with
        limit := limit.toNat
        params := { tAck := tAck.toNat, tInv := tInv.toNat, message := message.toNat, cycle := cycle.toNat }
        house := Vector.ofFn fun i : Fin 128 =>
          if i.val < limit.toNat then s.tab.house[i] else s.tab.house[i].emptied } own)) ∧
    (∀ (pattern : Byte) (notes : List (Half × Byte)),
      ((7 < pattern.toNat ∨ notes = [] ∨ 4 < notes.length) →
        refused (.writeParamsSection1 h pattern notes) 0x63 .eParam []) ∧
      (∀ p : Fin 8, pattern = BitVec.ofNat 8 p.val → 1 ≤ notes.length → notes.length ≤ 4 →
        wrote (.writeParamsSection1 h pattern notes) 0x63 { s.tab with
          patterns := s.tab.patterns.set p (notes.map fun x => clampNote x.1.toNat x.2.toNat) } own)))

/-- R67, R119, R139 and R205: a group inhibit is set and cleared, with its owner's effect, its INHIBIT report and
those that its owner produces; the dimmer lines stay held on when LIGHTING is cleared. R13 and R202: both requests are
refused above level 0, and with E_BUSY while the image is written or reloaded. Rests on the model's choices of
notes/assumptions/7.md, notes/assumptions/9.md, notes/assumptions/25.md. -/
def Obligations.GroupsAreInhibited : Prop :=
  ∀ (s : State) (h : Hdr), s.ready →
    let refused := fun (b : Byte) (x : Status) (data : List Byte) =>
      exec (.inhibitGroup h b) s = .next ((s.unpaired h.station).replied h 0x66#8 x data) ∧
      exec (.clearInhibit h b) s = .next ((s.unpaired h.station).replied h 0x67#8 x data)
    (∀ b : Byte, 3 < b.toNat → refused b .eParam []) ∧
    ∀ g : Group,
      let b := BitVec.ofNat 8 g.ctorIdx
      (s.stationPresent h.station = true → 0 < (s.cpl h.station).val → refused b .eAccess [6, 0, 0, 0, 0, 0]) ∧
      (s.admits h.station 0 → s.im.busy = true → refused b .eBusy []) ∧
      (s.admits h.station 0 → s.im.busy = false →
      (s.perf.phase ≠ .dark →
        exec (.inhibitGroup h b) s = .next ((s.unpaired h.station).replied h 0x66#8 .ePhase [])) ∧
      (s.perf.phase = .dark → s.im.inhibit.has g = true →
        exec (.inhibitGroup h b) s = .next ((s.unpaired h.station).replied h 0x66#8 .ok [])) ∧
      (s.perf.phase = .dark → s.im.inhibit.has g = false →
        let rest := s.cc.state.moving = false ∧ s.cc.state ≠ .held
        let short := fun m : Movement =>
          if s.cc.state = .lowering ∧ m.record.kind.fireClass = true ∧ m.record.faults ≠ [] then MoveOutcome.fault
          else .aborted
        let shown : Report := .inhibit g true h.station (s.im.inhibit.put g true)
        ∃ t, exec (.inhibitGroup h b) s = .next t ∧ t.im = { s.im with inhibit := s.im.inhibit.put g true } ∧
          (∀ k, (s.im.inhibit.put g true).has k = (decide (k = g) || s.im.inhibit.has k)) ∧
          (g = .drive → t.cc.state.moving = false ∧ t.cc.state ≠ .held ∧
            (rest → t.cc = s.cc ∧ t.notices = s.notices) ∧
            ∀ m, ¬rest → s.cc.move = some m →
              t.cc = { s.cc with
                state := .parked, reason := none, move := none, heldExpiry := none
                log := appendLog s.cc.log { m.record with stop := some s.clock, outcome := some (short m) } } ∧
              t.notices = s.notices ++
                [.movementNotice m.record.kind (short m) m.record.held m.record.duration m.params.tLimit] ∧
              s.produces t [shown, .movement { m.record with stop := some s.clock, outcome := some (short m) },
                t.curtainShown s.cc.state .inhibit]) ∧
          (¬(g = .drive ∧ ¬rest) → s.produces t [shown]) ∧
          (g = .lighting → t.le.forced = true ∧ ∀ n, t.dimmerOn n = true) ∧
          (g = .audio → ∀ n, t.circuitCarries n = .nothing) ∧
          (g = .sounders → ∀ n, t.sounderOn n = false) ∧
          (g ≠ .drive → t.cc = s.cc ∧ t.notices = s.notices) ∧ (g ≠ .sounders → t.al = s.al) ∧
          (g ≠ .lighting → t.le = s.le) ∧ t.answers h 0x66#8 .ok [] ∧
          t = { s with cc := t.cc, al := { s.al with sounders := t.al.sounders }
                       le := { s.le with forced := t.le.forced }, im := t.im, notices := t.notices
                       paired := s.paired.set h.station none, dl := s.dl.sent t.dl }) ∧
      (s.im.inhibit.has g = false →
        exec (.clearInhibit h b) s = .next ((s.unpaired h.station).replied h 0x67#8 .eNothing [])) ∧
      (s.im.inhibit.has g = true →
        ∃ t, exec (.clearInhibit h b) s = .next t ∧ t.im = { s.im with inhibit := s.im.inhibit.put g false } ∧
          (∀ k, (s.im.inhibit.put g false).has k = (decide (k ≠ g) && s.im.inhibit.has k)) ∧
          (g = .sounders → t.al.sounders = decide (s.al.stage = .evacuate)) ∧
          (g ≠ .sounders → t.al = s.al) ∧ t.answers h 0x67#8 .ok [] ∧
          (g = .lighting → s.le.forced = true → ∀ n, t.dimmerOn n = true) ∧
          s.produces t [.inhibit g false h.station (s.im.inhibit.put g false)] ∧
          t = { s with al := { s.al with sounders := t.al.sounders }, im := t.im
                       paired := s.paired.set h.station none, dl := s.dl.sent t.dl }))

/-! ## Rules of the whole machine -/

/-- R118: the four sounder outputs are driven together, off from the start of reset, and on exactly while the stage is
EVACUATE and the sounder group is not inhibited: every command keeps that, and every STAGE report shows the outputs as
they stand after it. R60: a set fire lock keeps its cause, and only RELEASE_LOCK, the return to QUIET and a reset
clear it. R106, R113 to R117 and R120: EVACUATE is left by SILENCE and ALARM_RESET alone, and QUIET is reached by
ALARM_RESET and a reset alone. R28: the phase changes by the phase requests alone, along the arrows of its table; a
reset returns it to DARK. A request comes of itself or is taken from the head of the receive buffer (R184). -/
def Obligations.ProtectionsAreLeftByRequest : Prop :=
  (∀ (s : State) (k j : Fin 4), s.sounderOn k = s.sounderOn j ∧ (s.inReset = true → s.sounderOn k = false) ∧
     (s.inReset = false → s.sounderOn k = s.al.sounders)) ∧
  State.reset.sounderLaw ∧ State.reset.inReset = true ∧
  (∀ (s t : State) (i : Instr), s.sounderLaw → exec i s = .next t →
     t.sounderLaw ∧
     ∀ q ∈ t.dl.reports, q ∉ s.dl.reports → ∀ r, q.report = .stage r →
       r.stage = t.al.stage ∧ r.sounders = t.al.sounders) ∧
  (∀ (s t : State) (i : Instr) (c : LockCause), i.wellFormed = true → s.cc.lock = some c → exec i s = .next t →
     t.cc.lock = some c ∨
     (t.cc.lock = none ∧
       ((∃ h, s.handles i (.releaseLock h)) ∨ i = .alarmQuiet ∨ i = .powerOnReset ∨ i = .restartReset))) ∧
  (∀ (s t : State) (i : Instr), i.wellFormed = true → exec i s = .next t →
     (s.al.stage = .evacuate → t.al.stage = .evacuate ∨
       (t.al.stage = .silenced ∧ ∃ h, s.handles i (.silence h)) ∨ t.al.stage = .quiet) ∧
     (s.al.stage ≠ .quiet → t.al.stage = .quiet →
       (∃ h, s.handles i (.alarmReset h)) ∨ i = .powerOnReset ∨ i = .restartReset)) ∧
  (∀ (s t : State) (i : Instr), i.wellFormed = true → exec i s = .next t →
     t.perf.phase = s.perf.phase ∨
     ((i = .powerOnReset ∨ i = .restartReset) ∧ t.perf.phase = .dark) ∨
     ∃ h, (s.handles i (.prepare h) ∧ s.perf.phase = .dark ∧ t.perf.phase = .prepare) ∨
       (s.handles i (.openHouse h) ∧ s.perf.phase = .prepare ∧ t.perf.phase = .houseOpen ∧ s.al.stage = .quiet) ∨
       (s.handles i (.beginAct h) ∧ (s.perf.phase = .houseOpen ∨ s.perf.phase = .interval) ∧
         t.perf.phase = .act ∧ s.al.stage = .quiet) ∨
       ((∃ m x, s.handles i (.beginInterval h m x)) ∧ s.perf.phase = .act ∧ t.perf.phase = .interval ∧
         s.al.stage = .quiet) ∨
       (s.handles i (.closeHouse h) ∧
         (s.perf.phase = .houseOpen ∨ s.perf.phase = .act ∨ s.perf.phase = .interval) ∧ t.perf.phase = .showDown) ∨
       (s.handles i (.goDark h) ∧ (s.perf.phase = .showDown ∨ s.perf.phase = .prepare) ∧ t.perf.phase = .dark ∧
         s.al.stage = .quiet))

/-! ## Laws that every step keeps -/

/-- R44, R52, R53, R60, R65 and R67: every step keeps the law of the raise: no raise and no permit with the lock set
or outside QUIET, and no raise with the drive inhibited. R46 to R50 and R57: every step keeps the law of the curtain
states and their records. Rests on the model's choices of notes/assumptions/3.md. -/
def Obligations.StepKeepsCurtainLaws : Prop :=
  (∀ s t : State, s.raiseLaw → step s = .next t → t.raiseLaw) ∧
  (∀ s t : State, s.curtainLaw → step s = .next t → t.curtainLaw)

/-- R104, R106 and R118: every step keeps the law of the stage record. R86, R97, R98 and R99: every step keeps the law
of the alarm list, which holds at most 48 entries. Rests on the model's choices of notes/assumptions/3.md. -/
def Obligations.StepKeepsAlarmLaws : Prop :=
  (∀ s t : State, s.stageLaw → step s = .next t → t.stageLaw) ∧
  ((∀ s t : State, s.listLaw → step s = .next t → t.listLaw) ∧ ∀ s : State, s.listLaw → s.al.list.length ≤ 48)

/-- R32 to R35, R38, R41 and R150 to R154: every step keeps the laws of the performance record and of desk
supervision. R151: a locked supervision stays enabled and keeps its window until a reset. R60, R106, R143, R144 and
R147: with notices taken in turn, every step keeps the laws of the fire lock and of EVAC and FIRE_LOCK; every step
keeps the law of the sources; and where they hold, every channel with EVAC in its mask shows its emergency level in
EVACUATE and SILENCED. R184 and R190: every step keeps the bounds of the receive buffer, of the overflow count and of
the report queue. Rests on the model's choices of notes/assumptions/3.md, notes/assumptions/7.md. -/
def Obligations.StepKeepsRecordLaws : Prop :=
  (∀ s t : State, step s = .next t →
     (s.performanceLaw → t.performanceLaw) ∧ (s.supervisionLaw → t.supervisionLaw)) ∧
  (∀ s t : State, s.supervisionLaw → s.os.sup.locked = true → step s = .next t →
     (t.os.sup.locked = true ∧ t.os.sup.enabled = true ∧ t.os.sup.window = s.os.sup.window) ∨
     s.pending.head? = some .powerOnReset ∨ s.pending.head? = some .restartReset) ∧
  (∀ s t : State, s.noticeInTurn → step s = .next t →
     (s.fireLockLaw → t.fireLockLaw) ∧ (s.eventLaw → t.eventLaw)) ∧
  (∀ s t : State, s.sourceLaw → step s = .next t → t.sourceLaw) ∧
  (∀ s : State, s.eventLaw → s.sourceLaw → s.al.stage.clearing = true → Instr.tableChangeNotice ∉ s.notices →
     ∀ n : Fin 48, ∀ b, s.tab.governing n = some b → b.mask.evac = true →
       s.os.selections[n].source = .emergency ∧ s.le.channels[n].selected = b.emergency) ∧
  (∀ s t : State, s.linkLaw → step s = .next t → t.linkLaw)

/-- R1 to R11, R199 and R204: every step keeps the law of the tables: no load and no write puts a value out of its
range into them. R124, R127, R136 and R142: with tables in range, every step keeps every level, fade and reload value
in range. Rests on the model's choices of notes/assumptions/3.md. -/
def Obligations.StepKeepsTableLaws : Prop :=
  (∀ s t : State, s.tab.law → step s = .next t → t.tab.law) ∧
  (∀ s t : State, s.tab.law → s.lightingLaw → step s = .next t → t.lightingLaw)

/-- R156, R158, R162, R163 and R172: every step keeps the law of the calls, and with it the law that no call holds a
circuit or a source in EVACUATE or SILENCED once its notice is taken, and the order of the queue, where no due time
was reached so long ago (2^31 - 1 ticks) that R26 is about to take it for one to come. R156: with notices taken in
turn, every step keeps the law that the evacuation message holds every circuit in EVACUATE once its notice is taken.
Rests on the model's choices of notes/assumptions/3.md, notes/assumptions/7.md, notes/assumptions/18.md. -/
def Obligations.StepKeepsCallLaws : Prop :=
  (∀ s t : State, s.callLaw → step s = .next t → t.callLaw ∧ (s.evacuationLaw → t.evacuationLaw) ∧
     (s.queueLaw → (∀ c ∈ s.cu.queue, s.clock - c.due ≠ 0x7FFFFFFF#32) → t.queueLaw)) ∧
  (∀ s t : State, s.noticeInTurn → s.circuitLaw → step s = .next t → t.circuitLaw)

/-- The state right after reset meets every law. Rests on the model's choices of notes/assumptions/6.md. -/
def Obligations.ResetMeetsEveryLaw : Prop :=
  State.reset.raiseLaw ∧ State.reset.curtainLaw ∧ State.reset.stageLaw ∧ State.reset.listLaw ∧
  State.reset.performanceLaw ∧ State.reset.supervisionLaw ∧ State.reset.tab.law ∧ State.reset.lightingLaw ∧
  State.reset.callLaw ∧ State.reset.evacuationLaw ∧ State.reset.linkLaw ∧ State.reset.queueLaw ∧
  State.reset.noticeInTurn ∧ State.reset.fireLockLaw ∧ State.reset.eventLaw ∧ State.reset.circuitLaw ∧
  State.reset.sourceLaw
end

