-- ==== Sys2Proof/Laws/State.lean ====
section
/-! SUPPORT. What each update of the state changes and what it leaves: one lemma for each update and field. -/

namespace Sys2Proof.Machine

/-! ### `State.addReport` -/

@[simp] theorem State.addReport_pending (s : State) (r : Report) : (s.addReport r).pending = s.pending := rfl
@[simp] theorem State.addReport_notices (s : State) (r : Report) : (s.addReport r).notices = s.notices := rfl
@[simp] theorem State.addReport_inputs (s : State) (r : Report) : (s.addReport r).inputs = s.inputs := rfl
@[simp] theorem State.addReport_inReset (s : State) (r : Report) : (s.addReport r).inReset = s.inReset := rfl
@[simp] theorem State.addReport_clock (s : State) (r : Report) : (s.addReport r).clock = s.clock := rfl
@[simp] theorem State.addReport_tab (s : State) (r : Report) : (s.addReport r).tab = s.tab := rfl
@[simp] theorem State.addReport_paired (s : State) (r : Report) : (s.addReport r).paired = s.paired := rfl
@[simp] theorem State.addReport_perf (s : State) (r : Report) : (s.addReport r).perf = s.perf := rfl
@[simp] theorem State.addReport_watch (s : State) (r : Report) : (s.addReport r).watch = s.watch := rfl
@[simp] theorem State.addReport_cc (s : State) (r : Report) : (s.addReport r).cc = s.cc := rfl
@[simp] theorem State.addReport_al (s : State) (r : Report) : (s.addReport r).al = s.al := rfl
@[simp] theorem State.addReport_le (s : State) (r : Report) : (s.addReport r).le = s.le := rfl
@[simp] theorem State.addReport_os (s : State) (r : Report) : (s.addReport r).os = s.os := rfl
@[simp] theorem State.addReport_cu (s : State) (r : Report) : (s.addReport r).cu = s.cu := rfl
@[simp] theorem State.addReport_dl (s : State) (r : Report) : (s.addReport r).dl = s.dl.addReport s.clock r := rfl
@[simp] theorem State.addReport_im (s : State) (r : Report) : (s.addReport r).im = s.im := rfl

/-! ### `State.notify` -/

@[simp] theorem State.notify_pending (s : State) (i : Instr) : (s.notify i).pending = s.pending := rfl
@[simp] theorem State.notify_notices (s : State) (i : Instr) : (s.notify i).notices = s.notices ++ [i] := rfl
@[simp] theorem State.notify_inputs (s : State) (i : Instr) : (s.notify i).inputs = s.inputs := rfl
@[simp] theorem State.notify_inReset (s : State) (i : Instr) : (s.notify i).inReset = s.inReset := rfl
@[simp] theorem State.notify_clock (s : State) (i : Instr) : (s.notify i).clock = s.clock := rfl
@[simp] theorem State.notify_tab (s : State) (i : Instr) : (s.notify i).tab = s.tab := rfl
@[simp] theorem State.notify_paired (s : State) (i : Instr) : (s.notify i).paired = s.paired := rfl
@[simp] theorem State.notify_perf (s : State) (i : Instr) : (s.notify i).perf = s.perf := rfl
@[simp] theorem State.notify_watch (s : State) (i : Instr) : (s.notify i).watch = s.watch := rfl
@[simp] theorem State.notify_cc (s : State) (i : Instr) : (s.notify i).cc = s.cc := rfl
@[simp] theorem State.notify_al (s : State) (i : Instr) : (s.notify i).al = s.al := rfl
@[simp] theorem State.notify_le (s : State) (i : Instr) : (s.notify i).le = s.le := rfl
@[simp] theorem State.notify_os (s : State) (i : Instr) : (s.notify i).os = s.os := rfl
@[simp] theorem State.notify_cu (s : State) (i : Instr) : (s.notify i).cu = s.cu := rfl
@[simp] theorem State.notify_dl (s : State) (i : Instr) : (s.notify i).dl = s.dl := rfl
@[simp] theorem State.notify_im (s : State) (i : Instr) : (s.notify i).im = s.im := rfl

/-! ### `State.takeNotice` -/

@[simp] theorem State.takeNotice_pending (s : State) (i : Instr) : (s.takeNotice i).pending = s.pending := rfl
@[simp] theorem State.takeNotice_notices (s : State) (i : Instr) : (s.takeNotice i).notices = s.notices.erase i := rfl
@[simp] theorem State.takeNotice_inputs (s : State) (i : Instr) : (s.takeNotice i).inputs = s.inputs := rfl
@[simp] theorem State.takeNotice_inReset (s : State) (i : Instr) : (s.takeNotice i).inReset = s.inReset := rfl
@[simp] theorem State.takeNotice_clock (s : State) (i : Instr) : (s.takeNotice i).clock = s.clock := rfl
@[simp] theorem State.takeNotice_tab (s : State) (i : Instr) : (s.takeNotice i).tab = s.tab := rfl
@[simp] theorem State.takeNotice_paired (s : State) (i : Instr) : (s.takeNotice i).paired = s.paired := rfl
@[simp] theorem State.takeNotice_perf (s : State) (i : Instr) : (s.takeNotice i).perf = s.perf := rfl
@[simp] theorem State.takeNotice_watch (s : State) (i : Instr) : (s.takeNotice i).watch = s.watch := rfl
@[simp] theorem State.takeNotice_cc (s : State) (i : Instr) : (s.takeNotice i).cc = s.cc := rfl
@[simp] theorem State.takeNotice_al (s : State) (i : Instr) : (s.takeNotice i).al = s.al := rfl
@[simp] theorem State.takeNotice_le (s : State) (i : Instr) : (s.takeNotice i).le = s.le := rfl
@[simp] theorem State.takeNotice_os (s : State) (i : Instr) : (s.takeNotice i).os = s.os := rfl
@[simp] theorem State.takeNotice_cu (s : State) (i : Instr) : (s.takeNotice i).cu = s.cu := rfl
@[simp] theorem State.takeNotice_dl (s : State) (i : Instr) : (s.takeNotice i).dl = s.dl := rfl
@[simp] theorem State.takeNotice_im (s : State) (i : Instr) : (s.takeNotice i).im = s.im := rfl

/-! ### `State.putReply` -/

@[simp] theorem State.putReply_pending (s : State) (h : Hdr) (code : Byte) (a : Answer) :
    (s.putReply h code a).pending = s.pending := rfl
@[simp] theorem State.putReply_notices (s : State) (h : Hdr) (code : Byte) (a : Answer) :
    (s.putReply h code a).notices = s.notices := rfl
@[simp] theorem State.putReply_inputs (s : State) (h : Hdr) (code : Byte) (a : Answer) :
    (s.putReply h code a).inputs = s.inputs := rfl
@[simp] theorem State.putReply_inReset (s : State) (h : Hdr) (code : Byte) (a : Answer) :
    (s.putReply h code a).inReset = s.inReset := rfl
@[simp] theorem State.putReply_clock (s : State) (h : Hdr) (code : Byte) (a : Answer) :
    (s.putReply h code a).clock = s.clock := rfl
@[simp] theorem State.putReply_tab (s : State) (h : Hdr) (code : Byte) (a : Answer) :
    (s.putReply h code a).tab = s.tab := rfl
@[simp] theorem State.putReply_paired (s : State) (h : Hdr) (code : Byte) (a : Answer) :
    (s.putReply h code a).paired = s.paired := rfl
@[simp] theorem State.putReply_perf (s : State) (h : Hdr) (code : Byte) (a : Answer) :
    (s.putReply h code a).perf = s.perf := rfl
@[simp] theorem State.putReply_watch (s : State) (h : Hdr) (code : Byte) (a : Answer) :
    (s.putReply h code a).watch = s.watch := rfl
@[simp] theorem State.putReply_cc (s : State) (h : Hdr) (code : Byte) (a : Answer) :
    (s.putReply h code a).cc = s.cc := rfl
@[simp] theorem State.putReply_al (s : State) (h : Hdr) (code : Byte) (a : Answer) :
    (s.putReply h code a).al = s.al := rfl
@[simp] theorem State.putReply_le (s : State) (h : Hdr) (code : Byte) (a : Answer) :
    (s.putReply h code a).le = s.le := rfl
@[simp] theorem State.putReply_os (s : State) (h : Hdr) (code : Byte) (a : Answer) :
    (s.putReply h code a).os = s.os := rfl
@[simp] theorem State.putReply_cu (s : State) (h : Hdr) (code : Byte) (a : Answer) :
    (s.putReply h code a).cu = s.cu := rfl
@[simp] theorem State.putReply_dl (s : State) (h : Hdr) (code : Byte) (a : Answer) :
    (s.putReply h code a).dl = s.dl.putSlot (.reply { hdr := h, code, status := a.status, data := a.data } 0) := rfl
@[simp] theorem State.putReply_im (s : State) (h : Hdr) (code : Byte) (a : Answer) :
    (s.putReply h code a).im = s.im := rfl

/-! ### `State.setCurtain` -/

@[simp] theorem State.setCurtain_pending (s : State) (new : CurtainState) (reason : Option FaultReason) :
    (s.setCurtain new reason).pending = s.pending := rfl
@[simp] theorem State.setCurtain_notices (s : State) (new : CurtainState) (reason : Option FaultReason) :
    (s.setCurtain new reason).notices = s.notices := rfl
@[simp] theorem State.setCurtain_inputs (s : State) (new : CurtainState) (reason : Option FaultReason) :
    (s.setCurtain new reason).inputs = s.inputs := rfl
@[simp] theorem State.setCurtain_inReset (s : State) (new : CurtainState) (reason : Option FaultReason) :
    (s.setCurtain new reason).inReset = s.inReset := rfl
@[simp] theorem State.setCurtain_clock (s : State) (new : CurtainState) (reason : Option FaultReason) :
    (s.setCurtain new reason).clock = s.clock := rfl
@[simp] theorem State.setCurtain_tab (s : State) (new : CurtainState) (reason : Option FaultReason) :
    (s.setCurtain new reason).tab = s.tab := rfl
@[simp] theorem State.setCurtain_paired (s : State) (new : CurtainState) (reason : Option FaultReason) :
    (s.setCurtain new reason).paired = s.paired := rfl
@[simp] theorem State.setCurtain_perf (s : State) (new : CurtainState) (reason : Option FaultReason) :
    (s.setCurtain new reason).perf = s.perf := rfl
@[simp] theorem State.setCurtain_watch (s : State) (new : CurtainState) (reason : Option FaultReason) :
    (s.setCurtain new reason).watch = s.watch := rfl
@[simp] theorem State.setCurtain_cc (s : State) (new : CurtainState) (reason : Option FaultReason) :
    (s.setCurtain new reason).cc = { s.cc with state := new, reason := reason } := rfl
@[simp] theorem State.setCurtain_al (s : State) (new : CurtainState) (reason : Option FaultReason) :
    (s.setCurtain new reason).al = s.al := rfl
@[simp] theorem State.setCurtain_le (s : State) (new : CurtainState) (reason : Option FaultReason) :
    (s.setCurtain new reason).le = s.le := rfl
@[simp] theorem State.setCurtain_os (s : State) (new : CurtainState) (reason : Option FaultReason) :
    (s.setCurtain new reason).os = s.os := rfl
@[simp] theorem State.setCurtain_cu (s : State) (new : CurtainState) (reason : Option FaultReason) :
    (s.setCurtain new reason).cu = s.cu := rfl
@[simp] theorem State.setCurtain_dl (s : State) (new : CurtainState) (reason : Option FaultReason) :
    (s.setCurtain new reason).dl = s.dl := rfl
@[simp] theorem State.setCurtain_im (s : State) (new : CurtainState) (reason : Option FaultReason) :
    (s.setCurtain new reason).im = s.im := rfl

/-! ### `State.setMove` -/

@[simp] theorem State.setMove_pending (s : State) (m : Option Movement) : (s.setMove m).pending = s.pending := rfl
@[simp] theorem State.setMove_notices (s : State) (m : Option Movement) : (s.setMove m).notices = s.notices := rfl
@[simp] theorem State.setMove_inputs (s : State) (m : Option Movement) : (s.setMove m).inputs = s.inputs := rfl
@[simp] theorem State.setMove_inReset (s : State) (m : Option Movement) : (s.setMove m).inReset = s.inReset := rfl
@[simp] theorem State.setMove_clock (s : State) (m : Option Movement) : (s.setMove m).clock = s.clock := rfl
@[simp] theorem State.setMove_tab (s : State) (m : Option Movement) : (s.setMove m).tab = s.tab := rfl
@[simp] theorem State.setMove_paired (s : State) (m : Option Movement) : (s.setMove m).paired = s.paired := rfl
@[simp] theorem State.setMove_perf (s : State) (m : Option Movement) : (s.setMove m).perf = s.perf := rfl
@[simp] theorem State.setMove_watch (s : State) (m : Option Movement) : (s.setMove m).watch = s.watch := rfl
@[simp] theorem State.setMove_cc (s : State) (m : Option Movement) : (s.setMove m).cc = { s.cc with move := m } := rfl
@[simp] theorem State.setMove_al (s : State) (m : Option Movement) : (s.setMove m).al = s.al := rfl
@[simp] theorem State.setMove_le (s : State) (m : Option Movement) : (s.setMove m).le = s.le := rfl
@[simp] theorem State.setMove_os (s : State) (m : Option Movement) : (s.setMove m).os = s.os := rfl
@[simp] theorem State.setMove_cu (s : State) (m : Option Movement) : (s.setMove m).cu = s.cu := rfl
@[simp] theorem State.setMove_dl (s : State) (m : Option Movement) : (s.setMove m).dl = s.dl := rfl
@[simp] theorem State.setMove_im (s : State) (m : Option Movement) : (s.setMove m).im = s.im := rfl

/-! ### `State.setLine` -/

@[simp] theorem State.setLine_pending (s : State) (n : Fin 32) (r : LineRec) :
    (s.setLine n r).pending = s.pending := rfl
@[simp] theorem State.setLine_notices (s : State) (n : Fin 32) (r : LineRec) :
    (s.setLine n r).notices = s.notices := rfl
@[simp] theorem State.setLine_inputs (s : State) (n : Fin 32) (r : LineRec) : (s.setLine n r).inputs = s.inputs := rfl
@[simp] theorem State.setLine_inReset (s : State) (n : Fin 32) (r : LineRec) :
    (s.setLine n r).inReset = s.inReset := rfl
@[simp] theorem State.setLine_clock (s : State) (n : Fin 32) (r : LineRec) : (s.setLine n r).clock = s.clock := rfl
@[simp] theorem State.setLine_tab (s : State) (n : Fin 32) (r : LineRec) : (s.setLine n r).tab = s.tab := rfl
@[simp] theorem State.setLine_paired (s : State) (n : Fin 32) (r : LineRec) : (s.setLine n r).paired = s.paired := rfl
@[simp] theorem State.setLine_perf (s : State) (n : Fin 32) (r : LineRec) : (s.setLine n r).perf = s.perf := rfl
@[simp] theorem State.setLine_watch (s : State) (n : Fin 32) (r : LineRec) : (s.setLine n r).watch = s.watch := rfl
@[simp] theorem State.setLine_cc (s : State) (n : Fin 32) (r : LineRec) : (s.setLine n r).cc = s.cc := rfl
@[simp] theorem State.setLine_al (s : State) (n : Fin 32) (r : LineRec) :
    (s.setLine n r).al = { s.al with lines := s.al.lines.set n r } := rfl
@[simp] theorem State.setLine_le (s : State) (n : Fin 32) (r : LineRec) : (s.setLine n r).le = s.le := rfl
@[simp] theorem State.setLine_os (s : State) (n : Fin 32) (r : LineRec) : (s.setLine n r).os = s.os := rfl
@[simp] theorem State.setLine_cu (s : State) (n : Fin 32) (r : LineRec) : (s.setLine n r).cu = s.cu := rfl
@[simp] theorem State.setLine_dl (s : State) (n : Fin 32) (r : LineRec) : (s.setLine n r).dl = s.dl := rfl
@[simp] theorem State.setLine_im (s : State) (n : Fin 32) (r : LineRec) : (s.setLine n r).im = s.im := rfl

/-! ### `State.setStage` -/

@[simp] theorem State.setStage_pending (s : State) (new : Stage) : (s.setStage new).pending = s.pending := rfl
@[simp] theorem State.setStage_notices (s : State) (new : Stage) : (s.setStage new).notices = s.notices := rfl
@[simp] theorem State.setStage_inputs (s : State) (new : Stage) : (s.setStage new).inputs = s.inputs := rfl
@[simp] theorem State.setStage_inReset (s : State) (new : Stage) : (s.setStage new).inReset = s.inReset := rfl
@[simp] theorem State.setStage_clock (s : State) (new : Stage) : (s.setStage new).clock = s.clock := rfl
@[simp] theorem State.setStage_tab (s : State) (new : Stage) : (s.setStage new).tab = s.tab := rfl
@[simp] theorem State.setStage_paired (s : State) (new : Stage) : (s.setStage new).paired = s.paired := rfl
@[simp] theorem State.setStage_perf (s : State) (new : Stage) : (s.setStage new).perf = s.perf := rfl
@[simp] theorem State.setStage_watch (s : State) (new : Stage) : (s.setStage new).watch = s.watch := rfl
@[simp] theorem State.setStage_cc (s : State) (new : Stage) : (s.setStage new).cc = s.cc := rfl
@[simp] theorem State.setStage_al (s : State) (new : Stage) :
    (s.setStage new).al = { s.al with stage := new, enteredAt := s.clock, ackDue := none, invDue := none, ackBy := none, sounders := decide (new = .evacuate) && !s.im.inhibit.sounders } := rfl
@[simp] theorem State.setStage_le (s : State) (new : Stage) : (s.setStage new).le = s.le := rfl
@[simp] theorem State.setStage_os (s : State) (new : Stage) : (s.setStage new).os = s.os := rfl
@[simp] theorem State.setStage_cu (s : State) (new : Stage) : (s.setStage new).cu = s.cu := rfl
@[simp] theorem State.setStage_dl (s : State) (new : Stage) : (s.setStage new).dl = s.dl := rfl
@[simp] theorem State.setStage_im (s : State) (new : Stage) : (s.setStage new).im = s.im := rfl

/-! ### `State.appendEntry` -/

@[simp] theorem State.appendEntry_pending (s : State) (e : AlarmEntry) : (s.appendEntry e).pending = s.pending := rfl
@[simp] theorem State.appendEntry_notices (s : State) (e : AlarmEntry) : (s.appendEntry e).notices = s.notices := rfl
@[simp] theorem State.appendEntry_inputs (s : State) (e : AlarmEntry) : (s.appendEntry e).inputs = s.inputs := rfl
@[simp] theorem State.appendEntry_inReset (s : State) (e : AlarmEntry) : (s.appendEntry e).inReset = s.inReset := rfl
@[simp] theorem State.appendEntry_clock (s : State) (e : AlarmEntry) : (s.appendEntry e).clock = s.clock := rfl
@[simp] theorem State.appendEntry_tab (s : State) (e : AlarmEntry) : (s.appendEntry e).tab = s.tab := rfl
@[simp] theorem State.appendEntry_paired (s : State) (e : AlarmEntry) : (s.appendEntry e).paired = s.paired := rfl
@[simp] theorem State.appendEntry_perf (s : State) (e : AlarmEntry) : (s.appendEntry e).perf = s.perf := rfl
@[simp] theorem State.appendEntry_watch (s : State) (e : AlarmEntry) : (s.appendEntry e).watch = s.watch := rfl
@[simp] theorem State.appendEntry_cc (s : State) (e : AlarmEntry) : (s.appendEntry e).cc = s.cc := rfl
@[simp] theorem State.appendEntry_al (s : State) (e : AlarmEntry) :
    (s.appendEntry e).al = { s.al with list := s.al.list ++ [e] } := rfl
@[simp] theorem State.appendEntry_le (s : State) (e : AlarmEntry) : (s.appendEntry e).le = s.le := rfl
@[simp] theorem State.appendEntry_os (s : State) (e : AlarmEntry) : (s.appendEntry e).os = s.os := rfl
@[simp] theorem State.appendEntry_cu (s : State) (e : AlarmEntry) : (s.appendEntry e).cu = s.cu := rfl
@[simp] theorem State.appendEntry_dl (s : State) (e : AlarmEntry) : (s.appendEntry e).dl = s.dl := rfl
@[simp] theorem State.appendEntry_im (s : State) (e : AlarmEntry) : (s.appendEntry e).im = s.im := rfl

/-! ### `State.setSounders` -/

@[simp] theorem State.setSounders_pending (s : State) : s.setSounders.pending = s.pending := rfl
@[simp] theorem State.setSounders_notices (s : State) : s.setSounders.notices = s.notices := rfl
@[simp] theorem State.setSounders_inputs (s : State) : s.setSounders.inputs = s.inputs := rfl
@[simp] theorem State.setSounders_inReset (s : State) : s.setSounders.inReset = s.inReset := rfl
@[simp] theorem State.setSounders_clock (s : State) : s.setSounders.clock = s.clock := rfl
@[simp] theorem State.setSounders_tab (s : State) : s.setSounders.tab = s.tab := rfl
@[simp] theorem State.setSounders_paired (s : State) : s.setSounders.paired = s.paired := rfl
@[simp] theorem State.setSounders_perf (s : State) : s.setSounders.perf = s.perf := rfl
@[simp] theorem State.setSounders_watch (s : State) : s.setSounders.watch = s.watch := rfl
@[simp] theorem State.setSounders_cc (s : State) : s.setSounders.cc = s.cc := rfl
@[simp] theorem State.setSounders_al (s : State) :
    s.setSounders.al = { s.al with sounders := decide (s.al.stage = .evacuate) && !s.im.inhibit.sounders } := rfl
@[simp] theorem State.setSounders_le (s : State) : s.setSounders.le = s.le := rfl
@[simp] theorem State.setSounders_os (s : State) : s.setSounders.os = s.os := rfl
@[simp] theorem State.setSounders_cu (s : State) : s.setSounders.cu = s.cu := rfl
@[simp] theorem State.setSounders_dl (s : State) : s.setSounders.dl = s.dl := rfl
@[simp] theorem State.setSounders_im (s : State) : s.setSounders.im = s.im := rfl

/-! ### `State.setLamps` -/

@[simp] theorem State.setLamps_pending (s : State) (v : Vector Lamp 48) :
    (s.setLamps v).pending = s.pending := by rw [State.setLamps]
@[simp] theorem State.setLamps_notices (s : State) (v : Vector Lamp 48) :
    (s.setLamps v).notices = s.notices := by rw [State.setLamps]
@[simp] theorem State.setLamps_inputs (s : State) (v : Vector Lamp 48) :
    (s.setLamps v).inputs = s.inputs := by rw [State.setLamps]
@[simp] theorem State.setLamps_inReset (s : State) (v : Vector Lamp 48) :
    (s.setLamps v).inReset = s.inReset := by rw [State.setLamps]
@[simp] theorem State.setLamps_clock (s : State) (v : Vector Lamp 48) :
    (s.setLamps v).clock = s.clock := by rw [State.setLamps]
@[simp] theorem State.setLamps_tab (s : State) (v : Vector Lamp 48) :
    (s.setLamps v).tab = s.tab := by rw [State.setLamps]
@[simp] theorem State.setLamps_paired (s : State) (v : Vector Lamp 48) :
    (s.setLamps v).paired = s.paired := by rw [State.setLamps]
@[simp] theorem State.setLamps_perf (s : State) (v : Vector Lamp 48) :
    (s.setLamps v).perf = s.perf := by rw [State.setLamps]
@[simp] theorem State.setLamps_watch (s : State) (v : Vector Lamp 48) :
    (s.setLamps v).watch = s.watch := by rw [State.setLamps]
@[simp] theorem State.setLamps_cc (s : State) (v : Vector Lamp 48) :
    (s.setLamps v).cc = s.cc := by rw [State.setLamps]
@[simp] theorem State.setLamps_al (s : State) (v : Vector Lamp 48) :
    (s.setLamps v).al = s.al := by rw [State.setLamps]
@[simp] theorem State.setLamps_le (s : State) (v : Vector Lamp 48) :
    (s.setLamps v).le = { s.le with channels := Vector.ofFn fun n : Fin 48 => v[n].chan } := by rw [State.setLamps]
@[simp] theorem State.setLamps_os (s : State) (v : Vector Lamp 48) :
    (s.setLamps v).os = { s.os with selections := Vector.ofFn fun n : Fin 48 => v[n].sel } := by rw [State.setLamps]
@[simp] theorem State.setLamps_cu (s : State) (v : Vector Lamp 48) :
    (s.setLamps v).cu = s.cu := by rw [State.setLamps]
@[simp] theorem State.setLamps_dl (s : State) (v : Vector Lamp 48) :
    (s.setLamps v).dl = s.dl := by rw [State.setLamps]
@[simp] theorem State.setLamps_im (s : State) (v : Vector Lamp 48) :
    (s.setLamps v).im = s.im := by rw [State.setLamps]

/-! ### `State.setSup` -/

@[simp] theorem State.setSup_pending (s : State) (x : Supervision) : (s.setSup x).pending = s.pending := rfl
@[simp] theorem State.setSup_notices (s : State) (x : Supervision) : (s.setSup x).notices = s.notices := rfl
@[simp] theorem State.setSup_inputs (s : State) (x : Supervision) : (s.setSup x).inputs = s.inputs := rfl
@[simp] theorem State.setSup_inReset (s : State) (x : Supervision) : (s.setSup x).inReset = s.inReset := rfl
@[simp] theorem State.setSup_clock (s : State) (x : Supervision) : (s.setSup x).clock = s.clock := rfl
@[simp] theorem State.setSup_tab (s : State) (x : Supervision) : (s.setSup x).tab = s.tab := rfl
@[simp] theorem State.setSup_paired (s : State) (x : Supervision) : (s.setSup x).paired = s.paired := rfl
@[simp] theorem State.setSup_perf (s : State) (x : Supervision) : (s.setSup x).perf = s.perf := rfl
@[simp] theorem State.setSup_watch (s : State) (x : Supervision) : (s.setSup x).watch = s.watch := rfl
@[simp] theorem State.setSup_cc (s : State) (x : Supervision) : (s.setSup x).cc = s.cc := rfl
@[simp] theorem State.setSup_al (s : State) (x : Supervision) : (s.setSup x).al = s.al := rfl
@[simp] theorem State.setSup_le (s : State) (x : Supervision) : (s.setSup x).le = s.le := rfl
@[simp] theorem State.setSup_os (s : State) (x : Supervision) : (s.setSup x).os = { s.os with sup := x } := rfl
@[simp] theorem State.setSup_cu (s : State) (x : Supervision) : (s.setSup x).cu = s.cu := rfl
@[simp] theorem State.setSup_dl (s : State) (x : Supervision) : (s.setSup x).dl = s.dl := rfl
@[simp] theorem State.setSup_im (s : State) (x : Supervision) : (s.setSup x).im = s.im := rfl

/-! ### `State.setCue` -/

@[simp] theorem State.setCue_pending (s : State) (st : Station) (c : Option (Fin 16)) :
    (s.setCue st c).pending = s.pending := rfl
@[simp] theorem State.setCue_notices (s : State) (st : Station) (c : Option (Fin 16)) :
    (s.setCue st c).notices = s.notices := rfl
@[simp] theorem State.setCue_inputs (s : State) (st : Station) (c : Option (Fin 16)) :
    (s.setCue st c).inputs = s.inputs := rfl
@[simp] theorem State.setCue_inReset (s : State) (st : Station) (c : Option (Fin 16)) :
    (s.setCue st c).inReset = s.inReset := rfl
@[simp] theorem State.setCue_clock (s : State) (st : Station) (c : Option (Fin 16)) :
    (s.setCue st c).clock = s.clock := rfl
@[simp] theorem State.setCue_tab (s : State) (st : Station) (c : Option (Fin 16)) : (s.setCue st c).tab = s.tab := rfl
@[simp] theorem State.setCue_paired (s : State) (st : Station) (c : Option (Fin 16)) :
    (s.setCue st c).paired = s.paired := rfl
@[simp] theorem State.setCue_perf (s : State) (st : Station) (c : Option (Fin 16)) :
    (s.setCue st c).perf = s.perf := rfl
@[simp] theorem State.setCue_watch (s : State) (st : Station) (c : Option (Fin 16)) :
    (s.setCue st c).watch = s.watch := rfl
@[simp] theorem State.setCue_cc (s : State) (st : Station) (c : Option (Fin 16)) : (s.setCue st c).cc = s.cc := rfl
@[simp] theorem State.setCue_al (s : State) (st : Station) (c : Option (Fin 16)) : (s.setCue st c).al = s.al := rfl
@[simp] theorem State.setCue_le (s : State) (st : Station) (c : Option (Fin 16)) :
    (s.setCue st c).le = { s.le with cues := s.le.cues.set st c } := rfl
@[simp] theorem State.setCue_os (s : State) (st : Station) (c : Option (Fin 16)) : (s.setCue st c).os = s.os := rfl
@[simp] theorem State.setCue_cu (s : State) (st : Station) (c : Option (Fin 16)) : (s.setCue st c).cu = s.cu := rfl
@[simp] theorem State.setCue_dl (s : State) (st : Station) (c : Option (Fin 16)) : (s.setCue st c).dl = s.dl := rfl
@[simp] theorem State.setCue_im (s : State) (st : Station) (c : Option (Fin 16)) : (s.setCue st c).im = s.im := rfl

/-! ### `State.dropCues` -/

@[simp] theorem State.dropCues_pending (s : State) : s.dropCues.pending = s.pending := by rw [State.dropCues]
@[simp] theorem State.dropCues_notices (s : State) : s.dropCues.notices = s.notices := by rw [State.dropCues]
@[simp] theorem State.dropCues_inputs (s : State) : s.dropCues.inputs = s.inputs := by rw [State.dropCues]
@[simp] theorem State.dropCues_inReset (s : State) : s.dropCues.inReset = s.inReset := by rw [State.dropCues]
@[simp] theorem State.dropCues_clock (s : State) : s.dropCues.clock = s.clock := by rw [State.dropCues]
@[simp] theorem State.dropCues_tab (s : State) : s.dropCues.tab = s.tab := by rw [State.dropCues]
@[simp] theorem State.dropCues_paired (s : State) : s.dropCues.paired = s.paired := by rw [State.dropCues]
@[simp] theorem State.dropCues_perf (s : State) : s.dropCues.perf = s.perf := by rw [State.dropCues]
@[simp] theorem State.dropCues_watch (s : State) : s.dropCues.watch = s.watch := by rw [State.dropCues]
@[simp] theorem State.dropCues_cc (s : State) : s.dropCues.cc = s.cc := by rw [State.dropCues]
@[simp] theorem State.dropCues_al (s : State) : s.dropCues.al = s.al := by rw [State.dropCues]
@[simp] theorem State.dropCues_le (s : State) :
    s.dropCues.le = { s.le with cues := Vector.ofFn fun _ => none } := by rw [State.dropCues]
@[simp] theorem State.dropCues_os (s : State) : s.dropCues.os = s.os := by rw [State.dropCues]
@[simp] theorem State.dropCues_cu (s : State) : s.dropCues.cu = s.cu := by rw [State.dropCues]
@[simp] theorem State.dropCues_dl (s : State) : s.dropCues.dl = s.dl := by rw [State.dropCues]
@[simp] theorem State.dropCues_im (s : State) : s.dropCues.im = s.im := by rw [State.dropCues]

/-! ### `State.takeStarts` -/

@[simp] theorem State.takeStarts_pending (s : State) : s.takeStarts.pending = s.pending := by rw [State.takeStarts]
@[simp] theorem State.takeStarts_notices (s : State) : s.takeStarts.notices = s.notices := by rw [State.takeStarts]
@[simp] theorem State.takeStarts_inputs (s : State) : s.takeStarts.inputs = s.inputs := by rw [State.takeStarts]
@[simp] theorem State.takeStarts_inReset (s : State) : s.takeStarts.inReset = s.inReset := by rw [State.takeStarts]
@[simp] theorem State.takeStarts_clock (s : State) : s.takeStarts.clock = s.clock := by rw [State.takeStarts]
@[simp] theorem State.takeStarts_tab (s : State) : s.takeStarts.tab = s.tab := by rw [State.takeStarts]
@[simp] theorem State.takeStarts_paired (s : State) : s.takeStarts.paired = s.paired := by rw [State.takeStarts]
@[simp] theorem State.takeStarts_perf (s : State) : s.takeStarts.perf = s.perf := by rw [State.takeStarts]
@[simp] theorem State.takeStarts_watch (s : State) : s.takeStarts.watch = s.watch := by rw [State.takeStarts]
@[simp] theorem State.takeStarts_cc (s : State) : s.takeStarts.cc = s.cc := by rw [State.takeStarts]
@[simp] theorem State.takeStarts_al (s : State) : s.takeStarts.al = s.al := by rw [State.takeStarts]
@[simp] theorem State.takeStarts_os (s : State) : s.takeStarts.os = s.os := by rw [State.takeStarts]
@[simp] theorem State.takeStarts_cu (s : State) : s.takeStarts.cu = s.cu := by rw [State.takeStarts]
@[simp] theorem State.takeStarts_dl (s : State) : s.takeStarts.dl = s.dl := by rw [State.takeStarts]
@[simp] theorem State.takeStarts_im (s : State) : s.takeStarts.im = s.im := by rw [State.takeStarts]

/-! ### `State.setChannel` -/

@[simp] theorem State.setChannel_pending (s : State) (i : Fin 2) (c : MessageChannel) :
    (s.setChannel i c).pending = s.pending := rfl
@[simp] theorem State.setChannel_notices (s : State) (i : Fin 2) (c : MessageChannel) :
    (s.setChannel i c).notices = s.notices := rfl
@[simp] theorem State.setChannel_inputs (s : State) (i : Fin 2) (c : MessageChannel) :
    (s.setChannel i c).inputs = s.inputs := rfl
@[simp] theorem State.setChannel_inReset (s : State) (i : Fin 2) (c : MessageChannel) :
    (s.setChannel i c).inReset = s.inReset := rfl
@[simp] theorem State.setChannel_clock (s : State) (i : Fin 2) (c : MessageChannel) :
    (s.setChannel i c).clock = s.clock := rfl
@[simp] theorem State.setChannel_tab (s : State) (i : Fin 2) (c : MessageChannel) :
    (s.setChannel i c).tab = s.tab := rfl
@[simp] theorem State.setChannel_paired (s : State) (i : Fin 2) (c : MessageChannel) :
    (s.setChannel i c).paired = s.paired := rfl
@[simp] theorem State.setChannel_perf (s : State) (i : Fin 2) (c : MessageChannel) :
    (s.setChannel i c).perf = s.perf := rfl
@[simp] theorem State.setChannel_watch (s : State) (i : Fin 2) (c : MessageChannel) :
    (s.setChannel i c).watch = s.watch := rfl
@[simp] theorem State.setChannel_cc (s : State) (i : Fin 2) (c : MessageChannel) : (s.setChannel i c).cc = s.cc := rfl
@[simp] theorem State.setChannel_al (s : State) (i : Fin 2) (c : MessageChannel) : (s.setChannel i c).al = s.al := rfl
@[simp] theorem State.setChannel_le (s : State) (i : Fin 2) (c : MessageChannel) : (s.setChannel i c).le = s.le := rfl
@[simp] theorem State.setChannel_os (s : State) (i : Fin 2) (c : MessageChannel) : (s.setChannel i c).os = s.os := rfl
@[simp] theorem State.setChannel_cu (s : State) (i : Fin 2) (c : MessageChannel) :
    (s.setChannel i c).cu = { s.cu with channels := s.cu.channels.set i c } := rfl
@[simp] theorem State.setChannel_dl (s : State) (i : Fin 2) (c : MessageChannel) : (s.setChannel i c).dl = s.dl := rfl
@[simp] theorem State.setChannel_im (s : State) (i : Fin 2) (c : MessageChannel) : (s.setChannel i c).im = s.im := rfl

/-! ### `State.setGenerator` -/

@[simp] theorem State.setGenerator_pending (s : State) (i : Fin 2) (g : Generator) :
    (s.setGenerator i g).pending = s.pending := rfl
@[simp] theorem State.setGenerator_notices (s : State) (i : Fin 2) (g : Generator) :
    (s.setGenerator i g).notices = s.notices := rfl
@[simp] theorem State.setGenerator_inputs (s : State) (i : Fin 2) (g : Generator) :
    (s.setGenerator i g).inputs = s.inputs := rfl
@[simp] theorem State.setGenerator_inReset (s : State) (i : Fin 2) (g : Generator) :
    (s.setGenerator i g).inReset = s.inReset := rfl
@[simp] theorem State.setGenerator_clock (s : State) (i : Fin 2) (g : Generator) :
    (s.setGenerator i g).clock = s.clock := rfl
@[simp] theorem State.setGenerator_tab (s : State) (i : Fin 2) (g : Generator) :
    (s.setGenerator i g).tab = s.tab := rfl
@[simp] theorem State.setGenerator_paired (s : State) (i : Fin 2) (g : Generator) :
    (s.setGenerator i g).paired = s.paired := rfl
@[simp] theorem State.setGenerator_perf (s : State) (i : Fin 2) (g : Generator) :
    (s.setGenerator i g).perf = s.perf := rfl
@[simp] theorem State.setGenerator_watch (s : State) (i : Fin 2) (g : Generator) :
    (s.setGenerator i g).watch = s.watch := rfl
@[simp] theorem State.setGenerator_cc (s : State) (i : Fin 2) (g : Generator) : (s.setGenerator i g).cc = s.cc := rfl
@[simp] theorem State.setGenerator_al (s : State) (i : Fin 2) (g : Generator) : (s.setGenerator i g).al = s.al := rfl
@[simp] theorem State.setGenerator_le (s : State) (i : Fin 2) (g : Generator) : (s.setGenerator i g).le = s.le := rfl
@[simp] theorem State.setGenerator_os (s : State) (i : Fin 2) (g : Generator) : (s.setGenerator i g).os = s.os := rfl
@[simp] theorem State.setGenerator_cu (s : State) (i : Fin 2) (g : Generator) :
    (s.setGenerator i g).cu = { s.cu with generators := s.cu.generators.set i g } := rfl
@[simp] theorem State.setGenerator_dl (s : State) (i : Fin 2) (g : Generator) : (s.setGenerator i g).dl = s.dl := rfl
@[simp] theorem State.setGenerator_im (s : State) (i : Fin 2) (g : Generator) : (s.setGenerator i g).im = s.im := rfl

/-! ### `State.setCall` -/

@[simp] theorem State.setCall_pending (s : State) (c : Call) : (s.setCall c).pending = s.pending := rfl
@[simp] theorem State.setCall_notices (s : State) (c : Call) : (s.setCall c).notices = s.notices := rfl
@[simp] theorem State.setCall_inputs (s : State) (c : Call) : (s.setCall c).inputs = s.inputs := rfl
@[simp] theorem State.setCall_inReset (s : State) (c : Call) : (s.setCall c).inReset = s.inReset := rfl
@[simp] theorem State.setCall_clock (s : State) (c : Call) : (s.setCall c).clock = s.clock := rfl
@[simp] theorem State.setCall_tab (s : State) (c : Call) : (s.setCall c).tab = s.tab := rfl
@[simp] theorem State.setCall_paired (s : State) (c : Call) : (s.setCall c).paired = s.paired := rfl
@[simp] theorem State.setCall_perf (s : State) (c : Call) : (s.setCall c).perf = s.perf := rfl
@[simp] theorem State.setCall_watch (s : State) (c : Call) : (s.setCall c).watch = s.watch := rfl
@[simp] theorem State.setCall_cc (s : State) (c : Call) : (s.setCall c).cc = s.cc := rfl
@[simp] theorem State.setCall_al (s : State) (c : Call) : (s.setCall c).al = s.al := rfl
@[simp] theorem State.setCall_le (s : State) (c : Call) : (s.setCall c).le = s.le := rfl
@[simp] theorem State.setCall_os (s : State) (c : Call) : (s.setCall c).os = s.os := rfl
@[simp] theorem State.setCall_cu (s : State) (c : Call) :
    (s.setCall c).cu = { s.cu with queue := s.cu.queue.map fun x => if x.id = c.id then c else x } := rfl
@[simp] theorem State.setCall_dl (s : State) (c : Call) : (s.setCall c).dl = s.dl := rfl
@[simp] theorem State.setCall_im (s : State) (c : Call) : (s.setCall c).im = s.im := rfl

/-! ### `State.grant` -/

@[simp] theorem State.grant_pending (s : State) (h : Holder) (m : CircuitSet) :
    (s.grant h m).pending = s.pending := by rw [State.grant]
@[simp] theorem State.grant_notices (s : State) (h : Holder) (m : CircuitSet) :
    (s.grant h m).notices = s.notices := by rw [State.grant]
@[simp] theorem State.grant_inputs (s : State) (h : Holder) (m : CircuitSet) :
    (s.grant h m).inputs = s.inputs := by rw [State.grant]
@[simp] theorem State.grant_inReset (s : State) (h : Holder) (m : CircuitSet) :
    (s.grant h m).inReset = s.inReset := by rw [State.grant]
@[simp] theorem State.grant_clock (s : State) (h : Holder) (m : CircuitSet) :
    (s.grant h m).clock = s.clock := by rw [State.grant]
@[simp] theorem State.grant_tab (s : State) (h : Holder) (m : CircuitSet) :
    (s.grant h m).tab = s.tab := by rw [State.grant]
@[simp] theorem State.grant_paired (s : State) (h : Holder) (m : CircuitSet) :
    (s.grant h m).paired = s.paired := by rw [State.grant]
@[simp] theorem State.grant_perf (s : State) (h : Holder) (m : CircuitSet) :
    (s.grant h m).perf = s.perf := by rw [State.grant]
@[simp] theorem State.grant_watch (s : State) (h : Holder) (m : CircuitSet) :
    (s.grant h m).watch = s.watch := by rw [State.grant]
@[simp] theorem State.grant_cc (s : State) (h : Holder) (m : CircuitSet) :
    (s.grant h m).cc = s.cc := by rw [State.grant]
@[simp] theorem State.grant_al (s : State) (h : Holder) (m : CircuitSet) :
    (s.grant h m).al = s.al := by rw [State.grant]
@[simp] theorem State.grant_le (s : State) (h : Holder) (m : CircuitSet) :
    (s.grant h m).le = s.le := by rw [State.grant]
@[simp] theorem State.grant_os (s : State) (h : Holder) (m : CircuitSet) :
    (s.grant h m).os = s.os := by rw [State.grant]
@[simp] theorem State.grant_dl (s : State) (h : Holder) (m : CircuitSet) :
    (s.grant h m).dl = s.dl := by rw [State.grant]
@[simp] theorem State.grant_im (s : State) (h : Holder) (m : CircuitSet) :
    (s.grant h m).im = s.im := by rw [State.grant]

/-! ### `State.releaseCircuits` -/

@[simp] theorem State.releaseCircuits_pending (s : State) (h : Holder) :
    (s.releaseCircuits h).pending = s.pending := by rw [State.releaseCircuits]
@[simp] theorem State.releaseCircuits_notices (s : State) (h : Holder) :
    (s.releaseCircuits h).notices = s.notices := by rw [State.releaseCircuits]
@[simp] theorem State.releaseCircuits_inputs (s : State) (h : Holder) :
    (s.releaseCircuits h).inputs = s.inputs := by rw [State.releaseCircuits]
@[simp] theorem State.releaseCircuits_inReset (s : State) (h : Holder) :
    (s.releaseCircuits h).inReset = s.inReset := by rw [State.releaseCircuits]
@[simp] theorem State.releaseCircuits_clock (s : State) (h : Holder) :
    (s.releaseCircuits h).clock = s.clock := by rw [State.releaseCircuits]
@[simp] theorem State.releaseCircuits_tab (s : State) (h : Holder) :
    (s.releaseCircuits h).tab = s.tab := by rw [State.releaseCircuits]
@[simp] theorem State.releaseCircuits_paired (s : State) (h : Holder) :
    (s.releaseCircuits h).paired = s.paired := by rw [State.releaseCircuits]
@[simp] theorem State.releaseCircuits_perf (s : State) (h : Holder) :
    (s.releaseCircuits h).perf = s.perf := by rw [State.releaseCircuits]
@[simp] theorem State.releaseCircuits_watch (s : State) (h : Holder) :
    (s.releaseCircuits h).watch = s.watch := by rw [State.releaseCircuits]
@[simp] theorem State.releaseCircuits_cc (s : State) (h : Holder) :
    (s.releaseCircuits h).cc = s.cc := by rw [State.releaseCircuits]
@[simp] theorem State.releaseCircuits_al (s : State) (h : Holder) :
    (s.releaseCircuits h).al = s.al := by rw [State.releaseCircuits]
@[simp] theorem State.releaseCircuits_le (s : State) (h : Holder) :
    (s.releaseCircuits h).le = s.le := by rw [State.releaseCircuits]
@[simp] theorem State.releaseCircuits_os (s : State) (h : Holder) :
    (s.releaseCircuits h).os = s.os := by rw [State.releaseCircuits]
@[simp] theorem State.releaseCircuits_dl (s : State) (h : Holder) :
    (s.releaseCircuits h).dl = s.dl := by rw [State.releaseCircuits]
@[simp] theorem State.releaseCircuits_im (s : State) (h : Holder) :
    (s.releaseCircuits h).im = s.im := by rw [State.releaseCircuits]

/-! ### `State.setDefaults` -/

@[simp] theorem State.setDefaults_pending (s : State) : s.setDefaults.pending = s.pending := by rw [State.setDefaults]
@[simp] theorem State.setDefaults_notices (s : State) : s.setDefaults.notices = s.notices := by rw [State.setDefaults]
@[simp] theorem State.setDefaults_inputs (s : State) : s.setDefaults.inputs = s.inputs := by rw [State.setDefaults]
@[simp] theorem State.setDefaults_inReset (s : State) : s.setDefaults.inReset = s.inReset := by rw [State.setDefaults]
@[simp] theorem State.setDefaults_clock (s : State) : s.setDefaults.clock = s.clock := by rw [State.setDefaults]
@[simp] theorem State.setDefaults_tab (s : State) : s.setDefaults.tab = s.tab := by rw [State.setDefaults]
@[simp] theorem State.setDefaults_paired (s : State) : s.setDefaults.paired = s.paired := by rw [State.setDefaults]
@[simp] theorem State.setDefaults_perf (s : State) : s.setDefaults.perf = s.perf := by rw [State.setDefaults]
@[simp] theorem State.setDefaults_watch (s : State) : s.setDefaults.watch = s.watch := by rw [State.setDefaults]
@[simp] theorem State.setDefaults_cc (s : State) : s.setDefaults.cc = s.cc := by rw [State.setDefaults]
@[simp] theorem State.setDefaults_al (s : State) : s.setDefaults.al = s.al := by rw [State.setDefaults]
@[simp] theorem State.setDefaults_le (s : State) : s.setDefaults.le = s.le := by rw [State.setDefaults]
@[simp] theorem State.setDefaults_os (s : State) : s.setDefaults.os = s.os := by rw [State.setDefaults]
@[simp] theorem State.setDefaults_dl (s : State) : s.setDefaults.dl = s.dl := by rw [State.setDefaults]
@[simp] theorem State.setDefaults_im (s : State) : s.setDefaults.im = s.im := by rw [State.setDefaults]

/-! ### `State.releaseChannels` -/

@[simp] theorem State.releaseChannels_pending (s : State) (h : Holder) :
    (s.releaseChannels h).pending = s.pending := by rw [State.releaseChannels]
@[simp] theorem State.releaseChannels_notices (s : State) (h : Holder) :
    (s.releaseChannels h).notices = s.notices := by rw [State.releaseChannels]
@[simp] theorem State.releaseChannels_inputs (s : State) (h : Holder) :
    (s.releaseChannels h).inputs = s.inputs := by rw [State.releaseChannels]
@[simp] theorem State.releaseChannels_inReset (s : State) (h : Holder) :
    (s.releaseChannels h).inReset = s.inReset := by rw [State.releaseChannels]
@[simp] theorem State.releaseChannels_clock (s : State) (h : Holder) :
    (s.releaseChannels h).clock = s.clock := by rw [State.releaseChannels]
@[simp] theorem State.releaseChannels_tab (s : State) (h : Holder) :
    (s.releaseChannels h).tab = s.tab := by rw [State.releaseChannels]
@[simp] theorem State.releaseChannels_paired (s : State) (h : Holder) :
    (s.releaseChannels h).paired = s.paired := by rw [State.releaseChannels]
@[simp] theorem State.releaseChannels_perf (s : State) (h : Holder) :
    (s.releaseChannels h).perf = s.perf := by rw [State.releaseChannels]
@[simp] theorem State.releaseChannels_watch (s : State) (h : Holder) :
    (s.releaseChannels h).watch = s.watch := by rw [State.releaseChannels]
@[simp] theorem State.releaseChannels_cc (s : State) (h : Holder) :
    (s.releaseChannels h).cc = s.cc := by rw [State.releaseChannels]
@[simp] theorem State.releaseChannels_al (s : State) (h : Holder) :
    (s.releaseChannels h).al = s.al := by rw [State.releaseChannels]
@[simp] theorem State.releaseChannels_le (s : State) (h : Holder) :
    (s.releaseChannels h).le = s.le := by rw [State.releaseChannels]
@[simp] theorem State.releaseChannels_os (s : State) (h : Holder) :
    (s.releaseChannels h).os = s.os := by rw [State.releaseChannels]
@[simp] theorem State.releaseChannels_dl (s : State) (h : Holder) :
    (s.releaseChannels h).dl = s.dl := by rw [State.releaseChannels]
@[simp] theorem State.releaseChannels_im (s : State) (h : Holder) :
    (s.releaseChannels h).im = s.im := by rw [State.releaseChannels]

/-! ### `State.releaseGenerators` -/

@[simp] theorem State.releaseGenerators_pending (s : State) (id : Byte) :
    (s.releaseGenerators id).pending = s.pending := by rw [State.releaseGenerators]
@[simp] theorem State.releaseGenerators_notices (s : State) (id : Byte) :
    (s.releaseGenerators id).notices = s.notices := by rw [State.releaseGenerators]
@[simp] theorem State.releaseGenerators_inputs (s : State) (id : Byte) :
    (s.releaseGenerators id).inputs = s.inputs := by rw [State.releaseGenerators]
@[simp] theorem State.releaseGenerators_inReset (s : State) (id : Byte) :
    (s.releaseGenerators id).inReset = s.inReset := by rw [State.releaseGenerators]
@[simp] theorem State.releaseGenerators_clock (s : State) (id : Byte) :
    (s.releaseGenerators id).clock = s.clock := by rw [State.releaseGenerators]
@[simp] theorem State.releaseGenerators_tab (s : State) (id : Byte) :
    (s.releaseGenerators id).tab = s.tab := by rw [State.releaseGenerators]
@[simp] theorem State.releaseGenerators_paired (s : State) (id : Byte) :
    (s.releaseGenerators id).paired = s.paired := by rw [State.releaseGenerators]
@[simp] theorem State.releaseGenerators_perf (s : State) (id : Byte) :
    (s.releaseGenerators id).perf = s.perf := by rw [State.releaseGenerators]
@[simp] theorem State.releaseGenerators_watch (s : State) (id : Byte) :
    (s.releaseGenerators id).watch = s.watch := by rw [State.releaseGenerators]
@[simp] theorem State.releaseGenerators_cc (s : State) (id : Byte) :
    (s.releaseGenerators id).cc = s.cc := by rw [State.releaseGenerators]
@[simp] theorem State.releaseGenerators_al (s : State) (id : Byte) :
    (s.releaseGenerators id).al = s.al := by rw [State.releaseGenerators]
@[simp] theorem State.releaseGenerators_le (s : State) (id : Byte) :
    (s.releaseGenerators id).le = s.le := by rw [State.releaseGenerators]
@[simp] theorem State.releaseGenerators_os (s : State) (id : Byte) :
    (s.releaseGenerators id).os = s.os := by rw [State.releaseGenerators]
@[simp] theorem State.releaseGenerators_dl (s : State) (id : Byte) :
    (s.releaseGenerators id).dl = s.dl := by rw [State.releaseGenerators]
@[simp] theorem State.releaseGenerators_im (s : State) (id : Byte) :
    (s.releaseGenerators id).im = s.im := by rw [State.releaseGenerators]

/-! ### `State.takeOutputs` -/

@[simp] theorem State.takeOutputs_pending (s : State) (id : Byte) (m : ChannelSet) :
    (s.takeOutputs id m).pending = s.pending := by rw [State.takeOutputs]
@[simp] theorem State.takeOutputs_notices (s : State) (id : Byte) (m : ChannelSet) :
    (s.takeOutputs id m).notices = s.notices := by rw [State.takeOutputs]
@[simp] theorem State.takeOutputs_inputs (s : State) (id : Byte) (m : ChannelSet) :
    (s.takeOutputs id m).inputs = s.inputs := by rw [State.takeOutputs]
@[simp] theorem State.takeOutputs_inReset (s : State) (id : Byte) (m : ChannelSet) :
    (s.takeOutputs id m).inReset = s.inReset := by rw [State.takeOutputs]
@[simp] theorem State.takeOutputs_clock (s : State) (id : Byte) (m : ChannelSet) :
    (s.takeOutputs id m).clock = s.clock := by rw [State.takeOutputs]
@[simp] theorem State.takeOutputs_tab (s : State) (id : Byte) (m : ChannelSet) :
    (s.takeOutputs id m).tab = s.tab := by rw [State.takeOutputs]
@[simp] theorem State.takeOutputs_paired (s : State) (id : Byte) (m : ChannelSet) :
    (s.takeOutputs id m).paired = s.paired := by rw [State.takeOutputs]
@[simp] theorem State.takeOutputs_perf (s : State) (id : Byte) (m : ChannelSet) :
    (s.takeOutputs id m).perf = s.perf := by rw [State.takeOutputs]
@[simp] theorem State.takeOutputs_watch (s : State) (id : Byte) (m : ChannelSet) :
    (s.takeOutputs id m).watch = s.watch := by rw [State.takeOutputs]
@[simp] theorem State.takeOutputs_cc (s : State) (id : Byte) (m : ChannelSet) :
    (s.takeOutputs id m).cc = s.cc := by rw [State.takeOutputs]
@[simp] theorem State.takeOutputs_al (s : State) (id : Byte) (m : ChannelSet) :
    (s.takeOutputs id m).al = s.al := by rw [State.takeOutputs]
@[simp] theorem State.takeOutputs_le (s : State) (id : Byte) (m : ChannelSet) :
    (s.takeOutputs id m).le = s.le := by rw [State.takeOutputs]
@[simp] theorem State.takeOutputs_os (s : State) (id : Byte) (m : ChannelSet) :
    (s.takeOutputs id m).os = s.os := by rw [State.takeOutputs]
@[simp] theorem State.takeOutputs_dl (s : State) (id : Byte) (m : ChannelSet) :
    (s.takeOutputs id m).dl = s.dl := by rw [State.takeOutputs]
@[simp] theorem State.takeOutputs_im (s : State) (id : Byte) (m : ChannelSet) :
    (s.takeOutputs id m).im = s.im := by rw [State.takeOutputs]

/-! ### `State.dropOutputs` -/

@[simp] theorem State.dropOutputs_pending (s : State) (id : Byte) :
    (s.dropOutputs id).pending = s.pending := by rw [State.dropOutputs]
@[simp] theorem State.dropOutputs_notices (s : State) (id : Byte) :
    (s.dropOutputs id).notices = s.notices := by rw [State.dropOutputs]
@[simp] theorem State.dropOutputs_inputs (s : State) (id : Byte) :
    (s.dropOutputs id).inputs = s.inputs := by rw [State.dropOutputs]
@[simp] theorem State.dropOutputs_inReset (s : State) (id : Byte) :
    (s.dropOutputs id).inReset = s.inReset := by rw [State.dropOutputs]
@[simp] theorem State.dropOutputs_clock (s : State) (id : Byte) :
    (s.dropOutputs id).clock = s.clock := by rw [State.dropOutputs]
@[simp] theorem State.dropOutputs_tab (s : State) (id : Byte) :
    (s.dropOutputs id).tab = s.tab := by rw [State.dropOutputs]
@[simp] theorem State.dropOutputs_paired (s : State) (id : Byte) :
    (s.dropOutputs id).paired = s.paired := by rw [State.dropOutputs]
@[simp] theorem State.dropOutputs_perf (s : State) (id : Byte) :
    (s.dropOutputs id).perf = s.perf := by rw [State.dropOutputs]
@[simp] theorem State.dropOutputs_watch (s : State) (id : Byte) :
    (s.dropOutputs id).watch = s.watch := by rw [State.dropOutputs]
@[simp] theorem State.dropOutputs_cc (s : State) (id : Byte) :
    (s.dropOutputs id).cc = s.cc := by rw [State.dropOutputs]
@[simp] theorem State.dropOutputs_al (s : State) (id : Byte) :
    (s.dropOutputs id).al = s.al := by rw [State.dropOutputs]
@[simp] theorem State.dropOutputs_le (s : State) (id : Byte) :
    (s.dropOutputs id).le = s.le := by rw [State.dropOutputs]
@[simp] theorem State.dropOutputs_os (s : State) (id : Byte) :
    (s.dropOutputs id).os = s.os := by rw [State.dropOutputs]
@[simp] theorem State.dropOutputs_dl (s : State) (id : Byte) :
    (s.dropOutputs id).dl = s.dl := by rw [State.dropOutputs]
@[simp] theorem State.dropOutputs_im (s : State) (id : Byte) :
    (s.dropOutputs id).im = s.im := by rw [State.dropOutputs]

/-! ### `State.removeCall` -/

@[simp] theorem State.removeCall_pending (s : State) (id : Byte) : (s.removeCall id).pending = s.pending := rfl
@[simp] theorem State.removeCall_notices (s : State) (id : Byte) : (s.removeCall id).notices = s.notices := rfl
@[simp] theorem State.removeCall_inputs (s : State) (id : Byte) : (s.removeCall id).inputs = s.inputs := rfl
@[simp] theorem State.removeCall_inReset (s : State) (id : Byte) : (s.removeCall id).inReset = s.inReset := rfl
@[simp] theorem State.removeCall_clock (s : State) (id : Byte) : (s.removeCall id).clock = s.clock := rfl
@[simp] theorem State.removeCall_tab (s : State) (id : Byte) : (s.removeCall id).tab = s.tab := rfl
@[simp] theorem State.removeCall_paired (s : State) (id : Byte) : (s.removeCall id).paired = s.paired := rfl
@[simp] theorem State.removeCall_perf (s : State) (id : Byte) : (s.removeCall id).perf = s.perf := rfl
@[simp] theorem State.removeCall_watch (s : State) (id : Byte) : (s.removeCall id).watch = s.watch := rfl
@[simp] theorem State.removeCall_cc (s : State) (id : Byte) : (s.removeCall id).cc = s.cc := rfl
@[simp] theorem State.removeCall_al (s : State) (id : Byte) : (s.removeCall id).al = s.al := rfl
@[simp] theorem State.removeCall_le (s : State) (id : Byte) : (s.removeCall id).le = s.le := rfl
@[simp] theorem State.removeCall_os (s : State) (id : Byte) : (s.removeCall id).os = s.os := rfl
@[simp] theorem State.removeCall_cu (s : State) (id : Byte) :
    (s.removeCall id).cu = { s.cu with queue := s.cu.queue.filter fun c => decide (c.id ≠ id) } := rfl
@[simp] theorem State.removeCall_dl (s : State) (id : Byte) : (s.removeCall id).dl = s.dl := rfl
@[simp] theorem State.removeCall_im (s : State) (id : Byte) : (s.removeCall id).im = s.im := rfl

/-! ### `State.shiftScripts` -/

@[simp] theorem State.shiftScripts_pending (s : State) (interval : Nat) (shift : Clock) :
    (s.shiftScripts interval shift).pending = s.pending := rfl
@[simp] theorem State.shiftScripts_notices (s : State) (interval : Nat) (shift : Clock) :
    (s.shiftScripts interval shift).notices = s.notices := rfl
@[simp] theorem State.shiftScripts_inputs (s : State) (interval : Nat) (shift : Clock) :
    (s.shiftScripts interval shift).inputs = s.inputs := rfl
@[simp] theorem State.shiftScripts_inReset (s : State) (interval : Nat) (shift : Clock) :
    (s.shiftScripts interval shift).inReset = s.inReset := rfl
@[simp] theorem State.shiftScripts_clock (s : State) (interval : Nat) (shift : Clock) :
    (s.shiftScripts interval shift).clock = s.clock := rfl
@[simp] theorem State.shiftScripts_tab (s : State) (interval : Nat) (shift : Clock) :
    (s.shiftScripts interval shift).tab = s.tab := rfl
@[simp] theorem State.shiftScripts_paired (s : State) (interval : Nat) (shift : Clock) :
    (s.shiftScripts interval shift).paired = s.paired := rfl
@[simp] theorem State.shiftScripts_perf (s : State) (interval : Nat) (shift : Clock) :
    (s.shiftScripts interval shift).perf = s.perf := rfl
@[simp] theorem State.shiftScripts_watch (s : State) (interval : Nat) (shift : Clock) :
    (s.shiftScripts interval shift).watch = s.watch := rfl
@[simp] theorem State.shiftScripts_cc (s : State) (interval : Nat) (shift : Clock) :
    (s.shiftScripts interval shift).cc = s.cc := rfl
@[simp] theorem State.shiftScripts_al (s : State) (interval : Nat) (shift : Clock) :
    (s.shiftScripts interval shift).al = s.al := rfl
@[simp] theorem State.shiftScripts_le (s : State) (interval : Nat) (shift : Clock) :
    (s.shiftScripts interval shift).le = s.le := rfl
@[simp] theorem State.shiftScripts_os (s : State) (interval : Nat) (shift : Clock) :
    (s.shiftScripts interval shift).os = s.os := rfl
@[simp] theorem State.shiftScripts_dl (s : State) (interval : Nat) (shift : Clock) :
    (s.shiftScripts interval shift).dl = s.dl := rfl
@[simp] theorem State.shiftScripts_im (s : State) (interval : Nat) (shift : Clock) :
    (s.shiftScripts interval shift).im = s.im := rfl

/-! ### `State.setStaff` -/

@[simp] theorem State.setStaff_pending (s : State) (x : Option StaffCall) : (s.setStaff x).pending = s.pending := rfl
@[simp] theorem State.setStaff_notices (s : State) (x : Option StaffCall) : (s.setStaff x).notices = s.notices := rfl
@[simp] theorem State.setStaff_inputs (s : State) (x : Option StaffCall) : (s.setStaff x).inputs = s.inputs := rfl
@[simp] theorem State.setStaff_inReset (s : State) (x : Option StaffCall) : (s.setStaff x).inReset = s.inReset := rfl
@[simp] theorem State.setStaff_clock (s : State) (x : Option StaffCall) : (s.setStaff x).clock = s.clock := rfl
@[simp] theorem State.setStaff_tab (s : State) (x : Option StaffCall) : (s.setStaff x).tab = s.tab := rfl
@[simp] theorem State.setStaff_paired (s : State) (x : Option StaffCall) : (s.setStaff x).paired = s.paired := rfl
@[simp] theorem State.setStaff_perf (s : State) (x : Option StaffCall) : (s.setStaff x).perf = s.perf := rfl
@[simp] theorem State.setStaff_watch (s : State) (x : Option StaffCall) : (s.setStaff x).watch = s.watch := rfl
@[simp] theorem State.setStaff_cc (s : State) (x : Option StaffCall) : (s.setStaff x).cc = s.cc := rfl
@[simp] theorem State.setStaff_al (s : State) (x : Option StaffCall) : (s.setStaff x).al = s.al := rfl
@[simp] theorem State.setStaff_le (s : State) (x : Option StaffCall) : (s.setStaff x).le = s.le := rfl
@[simp] theorem State.setStaff_os (s : State) (x : Option StaffCall) : (s.setStaff x).os = s.os := rfl
@[simp] theorem State.setStaff_cu (s : State) (x : Option StaffCall) :
    (s.setStaff x).cu = { s.cu with staff := x } := rfl
@[simp] theorem State.setStaff_dl (s : State) (x : Option StaffCall) : (s.setStaff x).dl = s.dl := rfl
@[simp] theorem State.setStaff_im (s : State) (x : Option StaffCall) : (s.setStaff x).im = s.im := rfl

/-! ### `State.setPaired` -/

@[simp] theorem State.setPaired_pending (s : State) (st : Station) (p : Option Paired) :
    (s.setPaired st p).pending = s.pending := rfl
@[simp] theorem State.setPaired_notices (s : State) (st : Station) (p : Option Paired) :
    (s.setPaired st p).notices = s.notices := rfl
@[simp] theorem State.setPaired_inputs (s : State) (st : Station) (p : Option Paired) :
    (s.setPaired st p).inputs = s.inputs := rfl
@[simp] theorem State.setPaired_inReset (s : State) (st : Station) (p : Option Paired) :
    (s.setPaired st p).inReset = s.inReset := rfl
@[simp] theorem State.setPaired_clock (s : State) (st : Station) (p : Option Paired) :
    (s.setPaired st p).clock = s.clock := rfl
@[simp] theorem State.setPaired_tab (s : State) (st : Station) (p : Option Paired) :
    (s.setPaired st p).tab = s.tab := rfl
@[simp] theorem State.setPaired_paired (s : State) (st : Station) (p : Option Paired) :
    (s.setPaired st p).paired = s.paired.set st p := rfl
@[simp] theorem State.setPaired_perf (s : State) (st : Station) (p : Option Paired) :
    (s.setPaired st p).perf = s.perf := rfl
@[simp] theorem State.setPaired_watch (s : State) (st : Station) (p : Option Paired) :
    (s.setPaired st p).watch = s.watch := rfl
@[simp] theorem State.setPaired_cc (s : State) (st : Station) (p : Option Paired) :
    (s.setPaired st p).cc = s.cc := rfl
@[simp] theorem State.setPaired_al (s : State) (st : Station) (p : Option Paired) :
    (s.setPaired st p).al = s.al := rfl
@[simp] theorem State.setPaired_le (s : State) (st : Station) (p : Option Paired) :
    (s.setPaired st p).le = s.le := rfl
@[simp] theorem State.setPaired_os (s : State) (st : Station) (p : Option Paired) :
    (s.setPaired st p).os = s.os := rfl
@[simp] theorem State.setPaired_cu (s : State) (st : Station) (p : Option Paired) :
    (s.setPaired st p).cu = s.cu := rfl
@[simp] theorem State.setPaired_dl (s : State) (st : Station) (p : Option Paired) :
    (s.setPaired st p).dl = s.dl := rfl
@[simp] theorem State.setPaired_im (s : State) (st : Station) (p : Option Paired) :
    (s.setPaired st p).im = s.im := rfl

/-! ### `State.unpaired` -/

@[simp] theorem State.unpaired_pending (s : State) (st : Station) : (s.unpaired st).pending = s.pending := rfl
@[simp] theorem State.unpaired_notices (s : State) (st : Station) : (s.unpaired st).notices = s.notices := rfl
@[simp] theorem State.unpaired_inputs (s : State) (st : Station) : (s.unpaired st).inputs = s.inputs := rfl
@[simp] theorem State.unpaired_inReset (s : State) (st : Station) : (s.unpaired st).inReset = s.inReset := rfl
@[simp] theorem State.unpaired_clock (s : State) (st : Station) : (s.unpaired st).clock = s.clock := rfl
@[simp] theorem State.unpaired_tab (s : State) (st : Station) : (s.unpaired st).tab = s.tab := rfl
@[simp] theorem State.unpaired_paired (s : State) (st : Station) :
    (s.unpaired st).paired = s.paired.set st none := rfl
@[simp] theorem State.unpaired_perf (s : State) (st : Station) : (s.unpaired st).perf = s.perf := rfl
@[simp] theorem State.unpaired_watch (s : State) (st : Station) : (s.unpaired st).watch = s.watch := rfl
@[simp] theorem State.unpaired_cc (s : State) (st : Station) : (s.unpaired st).cc = s.cc := rfl
@[simp] theorem State.unpaired_al (s : State) (st : Station) : (s.unpaired st).al = s.al := rfl
@[simp] theorem State.unpaired_le (s : State) (st : Station) : (s.unpaired st).le = s.le := rfl
@[simp] theorem State.unpaired_os (s : State) (st : Station) : (s.unpaired st).os = s.os := rfl
@[simp] theorem State.unpaired_cu (s : State) (st : Station) : (s.unpaired st).cu = s.cu := rfl
@[simp] theorem State.unpaired_dl (s : State) (st : Station) : (s.unpaired st).dl = s.dl := rfl
@[simp] theorem State.unpaired_im (s : State) (st : Station) : (s.unpaired st).im = s.im := rfl

/-! ### `State.setComm` -/

@[simp] theorem State.setComm_pending (s : State) (c : CommState) (w : Option Work) :
    (s.setComm c w).pending = s.pending := rfl
@[simp] theorem State.setComm_notices (s : State) (c : CommState) (w : Option Work) :
    (s.setComm c w).notices = s.notices := rfl
@[simp] theorem State.setComm_inputs (s : State) (c : CommState) (w : Option Work) :
    (s.setComm c w).inputs = s.inputs := rfl
@[simp] theorem State.setComm_inReset (s : State) (c : CommState) (w : Option Work) :
    (s.setComm c w).inReset = s.inReset := rfl
@[simp] theorem State.setComm_clock (s : State) (c : CommState) (w : Option Work) :
    (s.setComm c w).clock = s.clock := rfl
@[simp] theorem State.setComm_tab (s : State) (c : CommState) (w : Option Work) : (s.setComm c w).tab = s.tab := rfl
@[simp] theorem State.setComm_paired (s : State) (c : CommState) (w : Option Work) :
    (s.setComm c w).paired = s.paired := rfl
@[simp] theorem State.setComm_perf (s : State) (c : CommState) (w : Option Work) :
    (s.setComm c w).perf = s.perf := rfl
@[simp] theorem State.setComm_watch (s : State) (c : CommState) (w : Option Work) :
    (s.setComm c w).watch = s.watch := rfl
@[simp] theorem State.setComm_cc (s : State) (c : CommState) (w : Option Work) : (s.setComm c w).cc = s.cc := rfl
@[simp] theorem State.setComm_al (s : State) (c : CommState) (w : Option Work) : (s.setComm c w).al = s.al := rfl
@[simp] theorem State.setComm_le (s : State) (c : CommState) (w : Option Work) : (s.setComm c w).le = s.le := rfl
@[simp] theorem State.setComm_os (s : State) (c : CommState) (w : Option Work) : (s.setComm c w).os = s.os := rfl
@[simp] theorem State.setComm_cu (s : State) (c : CommState) (w : Option Work) : (s.setComm c w).cu = s.cu := rfl
@[simp] theorem State.setComm_dl (s : State) (c : CommState) (w : Option Work) : (s.setComm c w).dl = s.dl := rfl
@[simp] theorem State.setComm_im (s : State) (c : CommState) (w : Option Work) :
    (s.setComm c w).im = { s.im with comm := c, work := w } := rfl

/-! ### `State.setImage` -/

@[simp] theorem State.setImage_pending (s : State) (valid : Bool) (r : Option DefaultReason) :
    (s.setImage valid r).pending = s.pending := rfl
@[simp] theorem State.setImage_notices (s : State) (valid : Bool) (r : Option DefaultReason) :
    (s.setImage valid r).notices = s.notices := rfl
@[simp] theorem State.setImage_inputs (s : State) (valid : Bool) (r : Option DefaultReason) :
    (s.setImage valid r).inputs = s.inputs := rfl
@[simp] theorem State.setImage_inReset (s : State) (valid : Bool) (r : Option DefaultReason) :
    (s.setImage valid r).inReset = s.inReset := rfl
@[simp] theorem State.setImage_clock (s : State) (valid : Bool) (r : Option DefaultReason) :
    (s.setImage valid r).clock = s.clock := rfl
@[simp] theorem State.setImage_tab (s : State) (valid : Bool) (r : Option DefaultReason) :
    (s.setImage valid r).tab = s.tab := rfl
@[simp] theorem State.setImage_paired (s : State) (valid : Bool) (r : Option DefaultReason) :
    (s.setImage valid r).paired = s.paired := rfl
@[simp] theorem State.setImage_perf (s : State) (valid : Bool) (r : Option DefaultReason) :
    (s.setImage valid r).perf = s.perf := rfl
@[simp] theorem State.setImage_watch (s : State) (valid : Bool) (r : Option DefaultReason) :
    (s.setImage valid r).watch = s.watch := rfl
@[simp] theorem State.setImage_cc (s : State) (valid : Bool) (r : Option DefaultReason) :
    (s.setImage valid r).cc = s.cc := rfl
@[simp] theorem State.setImage_al (s : State) (valid : Bool) (r : Option DefaultReason) :
    (s.setImage valid r).al = s.al := rfl
@[simp] theorem State.setImage_le (s : State) (valid : Bool) (r : Option DefaultReason) :
    (s.setImage valid r).le = s.le := rfl
@[simp] theorem State.setImage_os (s : State) (valid : Bool) (r : Option DefaultReason) :
    (s.setImage valid r).os = s.os := rfl
@[simp] theorem State.setImage_cu (s : State) (valid : Bool) (r : Option DefaultReason) :
    (s.setImage valid r).cu = s.cu := rfl
@[simp] theorem State.setImage_dl (s : State) (valid : Bool) (r : Option DefaultReason) :
    (s.setImage valid r).dl = s.dl := rfl
@[simp] theorem State.setImage_im (s : State) (valid : Bool) (r : Option DefaultReason) :
    (s.setImage valid r).im = { s.im with valid, reason := r } := rfl

/-! ### `State.enterPhase` -/

@[simp] theorem State.enterPhase_pending (s : State) (p : Phase) : (s.enterPhase p).pending = s.pending := rfl
@[simp] theorem State.enterPhase_notices (s : State) (p : Phase) :
    (s.enterPhase p).notices = s.notices ++ [.phaseChangeNotice] := rfl
@[simp] theorem State.enterPhase_inputs (s : State) (p : Phase) : (s.enterPhase p).inputs = s.inputs := rfl
@[simp] theorem State.enterPhase_inReset (s : State) (p : Phase) : (s.enterPhase p).inReset = s.inReset := rfl
@[simp] theorem State.enterPhase_clock (s : State) (p : Phase) : (s.enterPhase p).clock = s.clock := rfl
@[simp] theorem State.enterPhase_tab (s : State) (p : Phase) : (s.enterPhase p).tab = s.tab := rfl
@[simp] theorem State.enterPhase_paired (s : State) (p : Phase) : (s.enterPhase p).paired = s.paired := rfl
@[simp] theorem State.enterPhase_perf (s : State) (p : Phase) :
    (s.enterPhase p).perf = { s.perf with phase := p } := rfl
@[simp] theorem State.enterPhase_watch (s : State) (p : Phase) : (s.enterPhase p).watch = s.watch := rfl
@[simp] theorem State.enterPhase_cc (s : State) (p : Phase) : (s.enterPhase p).cc = s.cc := rfl
@[simp] theorem State.enterPhase_al (s : State) (p : Phase) : (s.enterPhase p).al = s.al := rfl
@[simp] theorem State.enterPhase_le (s : State) (p : Phase) : (s.enterPhase p).le = s.le := rfl
@[simp] theorem State.enterPhase_os (s : State) (p : Phase) : (s.enterPhase p).os = s.os := rfl
@[simp] theorem State.enterPhase_cu (s : State) (p : Phase) : (s.enterPhase p).cu = s.cu := rfl
@[simp] theorem State.enterPhase_dl (s : State) (p : Phase) : (s.enterPhase p).dl = s.dl := rfl
@[simp] theorem State.enterPhase_im (s : State) (p : Phase) : (s.enterPhase p).im = s.im := rfl

/-! ### `State.dropInterval` -/

@[simp] theorem State.dropInterval_pending (s : State) : s.dropInterval.pending = s.pending := rfl
@[simp] theorem State.dropInterval_notices (s : State) : s.dropInterval.notices = s.notices := rfl
@[simp] theorem State.dropInterval_inputs (s : State) : s.dropInterval.inputs = s.inputs := rfl
@[simp] theorem State.dropInterval_inReset (s : State) : s.dropInterval.inReset = s.inReset := rfl
@[simp] theorem State.dropInterval_clock (s : State) : s.dropInterval.clock = s.clock := rfl
@[simp] theorem State.dropInterval_tab (s : State) : s.dropInterval.tab = s.tab := rfl
@[simp] theorem State.dropInterval_paired (s : State) : s.dropInterval.paired = s.paired := rfl
@[simp] theorem State.dropInterval_perf (s : State) : s.dropInterval.perf = { s.perf with intervalEnd := none } := rfl
@[simp] theorem State.dropInterval_watch (s : State) : s.dropInterval.watch = false := rfl
@[simp] theorem State.dropInterval_cc (s : State) : s.dropInterval.cc = s.cc := rfl
@[simp] theorem State.dropInterval_al (s : State) : s.dropInterval.al = s.al := rfl
@[simp] theorem State.dropInterval_le (s : State) : s.dropInterval.le = s.le := rfl
@[simp] theorem State.dropInterval_os (s : State) : s.dropInterval.os = s.os := rfl
@[simp] theorem State.dropInterval_cu (s : State) : s.dropInterval.cu = s.cu := rfl
@[simp] theorem State.dropInterval_dl (s : State) : s.dropInterval.dl = s.dl := rfl
@[simp] theorem State.dropInterval_im (s : State) : s.dropInterval.im = s.im := rfl

/-! ### `State.dropAbsent` -/

@[simp] theorem State.dropAbsent_pending (s : State) : s.dropAbsent.pending = s.pending := by rw [State.dropAbsent]
@[simp] theorem State.dropAbsent_notices (s : State) : s.dropAbsent.notices = s.notices := by rw [State.dropAbsent]
@[simp] theorem State.dropAbsent_inputs (s : State) : s.dropAbsent.inputs = s.inputs := by rw [State.dropAbsent]
@[simp] theorem State.dropAbsent_inReset (s : State) : s.dropAbsent.inReset = s.inReset := by rw [State.dropAbsent]
@[simp] theorem State.dropAbsent_clock (s : State) : s.dropAbsent.clock = s.clock := by rw [State.dropAbsent]
@[simp] theorem State.dropAbsent_tab (s : State) : s.dropAbsent.tab = s.tab := by rw [State.dropAbsent]
@[simp] theorem State.dropAbsent_perf (s : State) : s.dropAbsent.perf = s.perf := by rw [State.dropAbsent]
@[simp] theorem State.dropAbsent_watch (s : State) : s.dropAbsent.watch = s.watch := by rw [State.dropAbsent]
@[simp] theorem State.dropAbsent_cc (s : State) : s.dropAbsent.cc = s.cc := by rw [State.dropAbsent]
@[simp] theorem State.dropAbsent_al (s : State) : s.dropAbsent.al = s.al := by rw [State.dropAbsent]
@[simp] theorem State.dropAbsent_le (s : State) : s.dropAbsent.le = s.le := by rw [State.dropAbsent]
@[simp] theorem State.dropAbsent_os (s : State) : s.dropAbsent.os = s.os := by rw [State.dropAbsent]
@[simp] theorem State.dropAbsent_cu (s : State) : s.dropAbsent.cu = s.cu := by rw [State.dropAbsent]
@[simp] theorem State.dropAbsent_dl (s : State) : s.dropAbsent.dl = s.dl := by rw [State.dropAbsent]
@[simp] theorem State.dropAbsent_im (s : State) : s.dropAbsent.im = s.im := by rw [State.dropAbsent]

/-! ### `State.startReport` -/

@[simp] theorem State.startReport_pending (s : State) : s.startReport.pending = s.pending := rfl
@[simp] theorem State.startReport_notices (s : State) : s.startReport.notices = s.notices := rfl
@[simp] theorem State.startReport_inputs (s : State) : s.startReport.inputs = s.inputs := rfl
@[simp] theorem State.startReport_inReset (s : State) : s.startReport.inReset = s.inReset := rfl
@[simp] theorem State.startReport_clock (s : State) : s.startReport.clock = s.clock := rfl
@[simp] theorem State.startReport_tab (s : State) : s.startReport.tab = s.tab := rfl
@[simp] theorem State.startReport_paired (s : State) : s.startReport.paired = s.paired := rfl
@[simp] theorem State.startReport_perf (s : State) : s.startReport.perf = s.perf := rfl
@[simp] theorem State.startReport_watch (s : State) : s.startReport.watch = s.watch := rfl
@[simp] theorem State.startReport_cc (s : State) : s.startReport.cc = s.cc := rfl
@[simp] theorem State.startReport_al (s : State) : s.startReport.al = s.al := rfl
@[simp] theorem State.startReport_le (s : State) : s.startReport.le = s.le := rfl
@[simp] theorem State.startReport_os (s : State) : s.startReport.os = s.os := rfl
@[simp] theorem State.startReport_cu (s : State) : s.startReport.cu = s.cu := rfl
@[simp] theorem State.startReport_im (s : State) : s.startReport.im = s.im := rfl

/-! ### `State.setPins` -/

@[simp] theorem State.setPins_pending (s : State) (p : Pins) : (s.setPins p).pending = s.pending := rfl
@[simp] theorem State.setPins_notices (s : State) (p : Pins) : (s.setPins p).notices = s.notices := rfl
@[simp] theorem State.setPins_inputs (s : State) (p : Pins) : (s.setPins p).inputs = s.inputs := rfl
@[simp] theorem State.setPins_inReset (s : State) (p : Pins) : (s.setPins p).inReset = s.inReset := rfl
@[simp] theorem State.setPins_clock (s : State) (p : Pins) : (s.setPins p).clock = s.clock := rfl
@[simp] theorem State.setPins_tab (s : State) (p : Pins) : (s.setPins p).tab = s.tab := rfl
@[simp] theorem State.setPins_paired (s : State) (p : Pins) : (s.setPins p).paired = s.paired := rfl
@[simp] theorem State.setPins_perf (s : State) (p : Pins) : (s.setPins p).perf = s.perf := rfl
@[simp] theorem State.setPins_watch (s : State) (p : Pins) : (s.setPins p).watch = s.watch := rfl
@[simp] theorem State.setPins_cc (s : State) (p : Pins) :
    (s.setPins p).cc = { s.cc with position := p.position.toNat, top := p.top, bottom := p.bottom, settingClear := p.settingClear, driveReady := p.driveReady } := rfl
@[simp] theorem State.setPins_al (s : State) (p : Pins) : (s.setPins p).al = s.al := rfl
@[simp] theorem State.setPins_le (s : State) (p : Pins) : (s.setPins p).le = s.le := rfl
@[simp] theorem State.setPins_os (s : State) (p : Pins) : (s.setPins p).os = s.os := rfl
@[simp] theorem State.setPins_cu (s : State) (p : Pins) : (s.setPins p).cu = s.cu := rfl
@[simp] theorem State.setPins_dl (s : State) (p : Pins) : (s.setPins p).dl = s.dl := rfl
@[simp] theorem State.setPins_im (s : State) (p : Pins) : (s.setPins p).im = s.im := rfl

/-! ### `State.byte` -/

@[simp] theorem State.byte_pending (s : State) (b : Byte) : (s.byte b).pending = s.pending := rfl
@[simp] theorem State.byte_notices (s : State) (b : Byte) : (s.byte b).notices = s.notices := rfl
@[simp] theorem State.byte_inputs (s : State) (b : Byte) : (s.byte b).inputs = s.inputs := rfl
@[simp] theorem State.byte_inReset (s : State) (b : Byte) : (s.byte b).inReset = s.inReset := rfl
@[simp] theorem State.byte_clock (s : State) (b : Byte) : (s.byte b).clock = s.clock := rfl
@[simp] theorem State.byte_tab (s : State) (b : Byte) : (s.byte b).tab = s.tab := rfl
@[simp] theorem State.byte_paired (s : State) (b : Byte) : (s.byte b).paired = s.paired := rfl
@[simp] theorem State.byte_perf (s : State) (b : Byte) : (s.byte b).perf = s.perf := rfl
@[simp] theorem State.byte_watch (s : State) (b : Byte) : (s.byte b).watch = s.watch := rfl
@[simp] theorem State.byte_cc (s : State) (b : Byte) : (s.byte b).cc = s.cc := rfl
@[simp] theorem State.byte_al (s : State) (b : Byte) : (s.byte b).al = s.al := rfl
@[simp] theorem State.byte_le (s : State) (b : Byte) : (s.byte b).le = s.le := rfl
@[simp] theorem State.byte_os (s : State) (b : Byte) : (s.byte b).os = s.os := rfl
@[simp] theorem State.byte_cu (s : State) (b : Byte) : (s.byte b).cu = s.cu := rfl
@[simp] theorem State.byte_dl (s : State) (b : Byte) : (s.byte b).dl = s.dl.byte b := rfl
@[simp] theorem State.byte_im (s : State) (b : Byte) : (s.byte b).im = s.im := rfl

end Sys2Proof.Machine
end

