-- ==== Sys2Proof/Laws/Requests.lean ====
section
/-! SUPPORT. How a request is taken: one lemma for each outcome of `arrive`, of an event, and of each check. -/

namespace Sys2Proof.Machine

variable {s : State} {h : Hdr} {i : Instr} {st : Station}

/-! ### Arrival -/

theorem arrive_inReset (body : Option Paired → Handler) (hr : s.inReset = true) : arrive i h body s = .next s := by
  simp [arrive, hr]

theorem arrive_waits (body : Option Paired → Handler) (hr : s.inReset = false) (hf : s.linkFree = false) :
    arrive i h body s = .next { s with dl := s.dl.addItem (.request h (codeOf i) (encodeParams i)) } := by
  simp [arrive, hr, hf]

theorem arrive_starting (body : Option Paired → Handler) (hr : s.inReset = false) (hf : s.linkFree = true)
    (hs : s.im.starting = true) (he : early (codeOf i) = false) :
    arrive i h body s = .next ((s.unpaired h.station).replied h (codeOf i) .eStarting []) := by
  simp [arrive, serve, hr, hf, hs, he, State.replied, State.unpaired, Answer.refuse]

theorem arrive_early (body : Option Paired → Handler) (hr : s.inReset = false) (hf : s.linkFree = true)
    (he : early (codeOf i) = true) :
    arrive i h body s = .next (((body s.paired[h.station] (s.unpaired h.station)).1).putReply h (codeOf i)
      (body s.paired[h.station] (s.unpaired h.station)).2) := by
  simp [arrive, serve, hr, hf, he, State.unpaired]

theorem arrive_ready (body : Option Paired → Handler) (hr : s.ready) :
    arrive i h body s = .next (((body s.paired[h.station] (s.unpaired h.station)).1).putReply h (codeOf i)
      (body s.paired[h.station] (s.unpaired h.station)).2) := by
  obtain ⟨h1, h2, h3⟩ := hr
  simp [arrive, serve, h1, h2, h3, State.unpaired]

theorem putReply_eq (code : Byte) (a : Answer) : s.putReply h code a = s.replied h code a.status a.data := rfl

@[simp] theorem replied_eq (code : Byte) (x : Status) (d : List Byte) :
    s.replied h code x d = s.putReply h code { status := x, data := d } := rfl

/-! ### Events -/

theorem event_inReset (f : State → State) (hr : s.inReset = true) : event f s = .next s := by simp [event, hr]

theorem event_runs (f : State → State) (hr : s.inReset = false) : event f s = .next (f s) := by simp [event, hr]

theorem noticed_inReset (f : State → State) (hr : s.inReset = true) : noticed i f s = .next s := by
  simp [noticed, event, hr]

theorem noticed_runs (f : State → State) (hr : s.inReset = false) : noticed i f s = .next (f (s.takeNotice i)) := by
  simp [noticed, event, hr]

/-! ### Checks -/

theorem withStation_present (k : Handler) (hp : s.stationPresent st = true) : withStation st k s = k s := by
  simp [withStation, hp]

theorem withStation_absent (k : Handler) (hp : s.stationPresent st = false) :
    withStation st k s = (s, .deny (.fixed .station)) := by
  simp [withStation, hp]

theorem withLevel_admits {most : Nat} (k : Handler) (ha : s.admits st most) : withLevel st most k s = k s := by
  simp [withLevel, withStation, ha.1, ha.2]

theorem withLevel_denies {most : Nat} (k : Handler) (hp : s.stationPresent st = true) (hl : most < (s.cpl st).val) :
    withLevel st most k s = (s, .deny (.fixed .level)) := by
  simp [withLevel, withStation, hp, hl]

theorem withObject_passes {raw : Half} {w : Want} {x : Selector} (k : Selector → Handler)
    (hp : s.passes st raw w x) : withObject st raw w k s = k x (s.markUsed st x) := by
  simp [withObject, hp.1, withStation, hp.2.1, hp.2.2]

theorem withObject_fails {raw : Half} {w : Want} {x : Selector} {f : AccessFault} (k : Selector → Handler)
    (hx : decodeSelector raw = some x) (hp : s.stationPresent st = true)
    (hf : s.tab.firstFault st (s.cpl st) w [x] = some f) : withObject st raw w k s = (s, .deny f) := by
  simp [withObject, hx, withStation, hp, hf]

theorem withObjects_passes {raws : List Half} {w : Want} {xs : List Selector} (k : List Selector → Handler)
    (hp : s.passesAll st raws w xs) : withObjects st raws w k s = k xs (s.markAll st xs) := by
  simp [withObjects, hp.1, withStation, hp.2.1, hp.2.2]

theorem need_holds {c : State → Bool} {x : Status} (k : Handler) (hc : c s = true) : need c x k s = k s := by
  simp [need, hc]

theorem need_fails {c : State → Bool} {x : Status} (k : Handler) (hc : c s = false) :
    need c x k s = (s, .refuse x) := by
  simp [need, hc]

@[simp] theorem unpaired_admits {most : Nat} (st' : Station) : (s.unpaired st').admits st most ↔ s.admits st most :=
  Iff.rfl

@[simp] theorem unpaired_passes {raw : Half} {w : Want} {x : Selector} (st' : Station) :
    (s.unpaired st').passes st raw w x ↔ s.passes st raw w x :=
  Iff.rfl

@[simp] theorem unpaired_passesAll {raws : List Half} {w : Want} {xs : List Selector} (st' : Station) :
    (s.unpaired st').passesAll st raws w xs ↔ s.passesAll st raws w xs :=
  Iff.rfl

@[simp] theorem unpaired_stationPresent (st' : Station) : (s.unpaired st').stationPresent st = s.stationPresent st :=
  rfl

@[simp] theorem unpaired_cpl (st' : Station) : (s.unpaired st').cpl st = s.cpl st := rfl

end Sys2Proof.Machine
end

