-- ==== Sys2Proof/Laws/Tables.lean ====
section
/-! SUPPORT. What marking entries as used leaves: tables that differ in used flags alone are read alike by every
block (R18). -/

namespace Sys2Proof.Machine

@[simp] theorem Tables.clearUsed_stations (t : Tables) : t.clearUsed.stations = t.stations := by
  rw [Tables.clearUsed]

@[simp] theorem Tables.clearUsed_limit (t : Tables) : t.clearUsed.limit = t.limit := by rw [Tables.clearUsed]

@[simp] theorem Tables.clearUsed_patterns (t : Tables) : t.clearUsed.patterns = t.patterns := by
  rw [Tables.clearUsed]

@[simp] theorem Tables.clearUsed_params (t : Tables) : t.clearUsed.params = t.params := by rw [Tables.clearUsed]

/-- Two tables differ in their used flags alone. -/
def Tables.alike (t u : Tables) : Prop := t.clearUsed = u.clearUsed

namespace Tables.alike

variable {t u v : Tables}

theorem refl (t : Tables) : t.alike t := rfl

theorem symm (h : t.alike u) : u.alike t := Eq.symm h

theorem trans (h : t.alike u) (k : u.alike v) : t.alike v := Eq.trans h k

theorem stations (h : t.alike u) : t.stations = u.stations := by
  simpa using congrArg Tables.stations h

theorem limit (h : t.alike u) : t.limit = u.limit := by
  simpa using congrArg Tables.limit h

theorem patterns (h : t.alike u) : t.patterns = u.patterns := by
  simpa using congrArg Tables.patterns h

theorem params (h : t.alike u) : t.params = u.params := by
  simpa using congrArg Tables.params h

end Tables.alike

theorem Tables.clearUsed_house (t : Tables) (i : Nat) (hi : i < 128) : t.clearUsed.house[i] = t.house[i].clearUsed := by
  simp only [Tables.clearUsed, Vector.getElem_ofFn]
  rfl

theorem Tables.clearUsed_locals (t : Tables) (st i : Nat) (hs : st < 16) (hi : i < 16) :
    t.clearUsed.locals[st][i] = t.locals[st][i].clearUsed := by
  simp only [Tables.clearUsed, Vector.getElem_ofFn]
  rfl

theorem Tables.clearUsed_clearUsed (t : Tables) : t.clearUsed.alike t := by
  unfold Tables.alike
  have hh : t.clearUsed.clearUsed.house = t.clearUsed.house := by
    ext i hi : 1
    rw [clearUsed_house, clearUsed_house]
    rfl
  have hl : t.clearUsed.clearUsed.locals = t.clearUsed.locals := by
    ext i hi : 1
    ext j hj : 1
    rw [clearUsed_locals, clearUsed_locals]
    rfl
  simp only [Tables.clearUsed] at hh hl ⊢
  rw [hh, hl]

namespace Tables.alike

variable {t u : Tables}

theorem house (h : t.alike u) (i : Nat) (hi : i < 128) : t.house[i].clearUsed = u.house[i].clearUsed := by
  rw [← Tables.clearUsed_house, ← Tables.clearUsed_house]
  exact congrArg (fun t : Tables => t.house[i]) h

theorem locals (h : t.alike u) (st i : Nat) (hs : st < 16) (hi : i < 16) :
    t.locals[st][i].clearUsed = u.locals[st][i].clearUsed := by
  rw [← Tables.clearUsed_locals, ← Tables.clearUsed_locals]
  exact congrArg (fun t : Tables => t.locals[st][i]) h

theorem houseBody (h : t.alike u) (i : Nat) (hi : i < 128) : t.house[i].body = u.house[i].body := by
  simpa [Entry.clearUsed] using congrArg Entry.body (h.house i hi)

theorem bodyAt (h : t.alike u) (i : Nat) : t.bodyAt i = u.bodyAt i := by
  unfold Tables.bodyAt Tables.house?
  split
  · rename_i hi
    have hb := h.houseBody i hi
    have hp : t.house[i].present = u.house[i].present := by simp only [Entry.present, hb]
    by_cases hc : i ≠ 0 ∧ i < u.limit ∧ u.house[i].present = true
    · rw [if_pos hc, if_pos (by rw [h.limit, hp]; exact hc)]
      exact hb
    · rw [if_neg hc, if_neg (by rw [h.limit, hp]; exact hc)]
  · rfl

theorem local? (h : t.alike u) (st : Station) (i : Nat) :
    (t.local? st i).bind Entry.body = (u.local? st i).bind Entry.body := by
  unfold Tables.local?
  split
  · rename_i hi
    have hb := congrArg Entry.body (h.locals st.val i st.isLt hi)
    simp only [Entry.clearUsed] at hb
    have hp : t.locals[st.val][i].present = u.locals[st.val][i].present := by simp only [Entry.present, hb]
    by_cases hc : u.locals[st.val][i].present = true
    · rw [if_pos (by simpa [hp] using hc), if_pos (by simpa using hc)]
      exact hb
    · rw [if_neg (by simpa [hp] using hc), if_neg (by simpa using hc)]
  · rfl

theorem firstBody {α : Type} (h : t.alike u) (f : Body → Option α) : t.firstBody f = u.firstBody f := by
  simp only [Tables.firstBody, h.bodyAt]

theorem lineEntry (h : t.alike u) (n : Nat) : t.lineEntry n = u.lineEntry n := h.firstBody _

theorem channelEntry (h : t.alike u) (n : Nat) : t.channelEntry n = u.channelEntry n := h.firstBody _

theorem circuitEntry (h : t.alike u) (n : Nat) : t.circuitEntry n = u.circuitEntry n := h.firstBody _

theorem curtainEntry (h : t.alike u) : t.curtainEntry = u.curtainEntry := h.firstBody _

theorem curtainCopy (h : t.alike u) : t.curtainCopy = u.curtainCopy := by
  simp only [Tables.curtainCopy, h.curtainEntry]

theorem governing (h : t.alike u) (n : Nat) : t.governing n = u.governing n := by
  simp only [Tables.governing, h.channelEntry]

theorem zone? (h : t.alike u) (i : Nat) : t.zone? i = u.zone? i := by simp only [Tables.zone?, h.bodyAt]

theorem zoneTrigger (h : t.alike u) (i : Nat) : t.zoneTrigger i = u.zoneTrigger i := by
  simp only [Tables.zoneTrigger, h.zone?]

theorem zoneStaged (h : t.alike u) (i : Nat) : t.zoneStaged i = u.zoneStaged i := by
  simp only [Tables.zoneStaged, h.zone?]

theorem lineAt (h : t.alike u) (i : Nat) : t.lineAt i = u.lineAt i := by simp only [Tables.lineAt, h.bodyAt]

theorem channelAt (h : t.alike u) (i : Nat) : t.channelAt i = u.channelAt i := by
  simp only [Tables.channelAt, h.bodyAt]

theorem gateAt (h : t.alike u) (i : Nat) : t.gateAt i = u.gateAt i := by simp only [Tables.gateAt, h.bodyAt]

theorem presetAt (h : t.alike u) (st : Station) (i : Nat) : t.presetAt st i = u.presetAt st i := by
  simp only [Tables.presetAt, h.local?]

theorem scriptAt (h : t.alike u) (st : Station) (i : Nat) : t.scriptAt st i = u.scriptAt st i := by
  simp only [Tables.scriptAt, h.local?]

theorem zoneCircuits (h : t.alike u) (i : Nat) : t.zoneCircuits i = u.zoneCircuits i := by
  simp only [Tables.zoneCircuits, h.zone?, h.circuitEntry]

theorem zoneChannels (h : t.alike u) (i : Nat) : t.zoneChannels i = u.zoneChannels i := by
  simp only [Tables.zoneChannels, h.zone?, h.channelEntry]

theorem resolveCircuits (h : t.alike u) (l : List Nat) : t.resolveCircuits l = u.resolveCircuits l := by
  simp only [Tables.resolveCircuits, h.zoneCircuits]

theorem resolveChannels (h : t.alike u) (l : List Nat) : t.resolveChannels l = u.resolveChannels l := by
  simp only [Tables.resolveChannels, h.zoneChannels]

end Tables.alike

/-! ### Marking -/

theorem State.markHouse_eq (i : Nat) (s : State) : s.markHouse i = { s with tab := (s.markHouse i).tab } := by
  unfold State.markHouse
  split <;> rfl

theorem State.markLocal_eq (st : Station) (i : Nat) (s : State) :
    s.markLocal st i = { s with tab := (s.markLocal st i).tab } := by
  unfold State.markLocal
  split <;> rfl

theorem State.markUsed_eq (st : Station) (x : Selector) (s : State) :
    s.markUsed st x = { s with tab := (s.markUsed st x).tab } := by
  unfold State.markUsed
  split
  · exact s.markLocal_eq st x.index.val
  · exact s.markHouse_eq x.index.val

theorem State.markAll_eq (st : Station) (xs : List Selector) (s : State) :
    s.markAll st xs = { s with tab := (s.markAll st xs).tab } := by
  induction xs generalizing s with
  | nil => rfl
  | cons x xs ih =>
    have hs : s.markAll st (x :: xs) = (s.markUsed st x).markAll st xs := rfl
    have hx := s.markUsed_eq st x
    rw [hs, ih]
    generalize ((s.markUsed st x).markAll st xs).tab = t
    rw [hx]

theorem Entry.markUsed_clearUsed (e : Entry) : e.markUsed.clearUsed = e.clearUsed := rfl

theorem State.markHouse_alike (i : Nat) (s : State) : (s.markHouse i).tab.alike s.tab := by
  unfold State.markHouse Tables.alike
  split
  · rename_i hi
    have hh : ({ s.tab with house := s.tab.house.set i s.tab.house[i].markUsed } : Tables).clearUsed.house =
        s.tab.clearUsed.house := by
      ext j hj : 1
      rw [Tables.clearUsed_house, Tables.clearUsed_house]
      simp only [Vector.getElem_set]
      split
      · subst_vars; rfl
      · rfl
    simp only [Tables.clearUsed] at hh ⊢
    rw [hh]
  · rfl

theorem State.markLocal_alike (st : Station) (i : Nat) (s : State) : (s.markLocal st i).tab.alike s.tab := by
  unfold State.markLocal Tables.alike
  split
  · rename_i hi
    have hl : ({ s.tab with
          locals := s.tab.locals.set st (s.tab.locals[st].set i s.tab.locals[st][i].markUsed) } : Tables).clearUsed.locals =
        s.tab.clearUsed.locals := by
      ext a ha : 1
      ext b hb : 1
      rw [Tables.clearUsed_locals, Tables.clearUsed_locals]
      by_cases h1 : st.val = a
      · subst h1
        by_cases h2 : i = b
        · subst h2
          simp [Entry.markUsed_clearUsed]
        · simp [h2]
      · simp [h1]
    simp only [Tables.clearUsed] at hl ⊢
    rw [hl]
  · rfl

theorem State.markUsed_alike (st : Station) (x : Selector) (s : State) : (s.markUsed st x).tab.alike s.tab := by
  unfold State.markUsed
  split
  · exact s.markLocal_alike st x.index.val
  · exact s.markHouse_alike x.index.val

theorem State.markAll_alike (st : Station) (xs : List Selector) (s : State) : (s.markAll st xs).tab.alike s.tab := by
  induction xs generalizing s with
  | nil => rfl
  | cons x xs ih =>
    show ((s.markUsed st x).markAll st xs).tab.alike s.tab
    exact (ih _).trans (s.markUsed_alike st x)

/-- A selector that passes the check of the house table for a type names a present entry whose body is of that
type (R14, R15). -/
theorem State.passes_body {s : State} {st : Station} {raw : Half} {ty : EntryType} {x : Selector}
    (h : s.passes st raw (.house ty) x) : ∃ b, s.tab.bodyAt x.index.val = some b ∧ b.type = ty := by
  obtain ⟨-, -, hf⟩ := h
  simp only [Tables.firstFault] at hf
  split at hf
  · cases hf
  · rename_i hc
    unfold Tables.checkSelector at hc
    split at hc
    · cases hc
    · split at hc
      · cases hc
      · split at hc
        · cases hc
        · rename_i e he
          split at hc
          · cases hc
          · rename_i hw
            have hw' : e.type = ty ∧ x.isLocal = false := by
              simpa [Want.admits, Want.house] using hw
            rw [Tables.entry?, if_neg (by simp [hw'.2])] at he
            have hp : e.present = true := by
              unfold Tables.house? at he
              split at he
              · split at he
                · rename_i hq
                  cases he
                  exact hq.2.2
                · cases he
              · cases he
            obtain ⟨b, hb⟩ := Option.isSome_iff_exists.mp hp
            refine ⟨b, by simp [Tables.bodyAt, he, hb], ?_⟩
            simpa [Entry.type, hb] using hw'.1

end Sys2Proof.Machine
end

