-- ==== Sys2Proof/Laws/Footprint.lean ====
section
/-! SUPPORT. What each shared operation can change: one lemma for each operation of the Curtain Controller, the
Override Selector, the Call Unit and the Alarm Unit, to be cited in place of its definition. -/

namespace Sys2Proof.Machine

/-! ### The link -/

@[simp] theorem Link.reported_self (d : Link) : d.reported d = d := rfl

@[simp] theorem Link.sent_self (d : Link) : d.sent d = d := rfl

@[simp] theorem Link.addReport_reported (d : Link) (now : Clock) (r : Report) :
    d.reported (d.addReport now r) = d.addReport now r := rfl

@[simp] theorem Link.addStart_reported (d : Link) (now : Clock) (r : Report) :
    d.reported (d.addStart now r) = d.addStart now r := rfl

theorem Link.reported_trans {d e f : Link} (h : e = d.reported e) (k : f = e.reported f) : f = d.reported f := by
  rw [k, h]
  rfl

theorem Link.reported_sent {d e : Link} (h : e = d.reported e) : e = d.sent e := by
  rw [h]
  rfl

theorem Link.putSlot_sent {d e : Link} (h : e = d.reported e) (o : Outgoing) : e.putSlot o = d.sent (e.putSlot o) := by
  rw [h]
  rfl

/-! ### The parts of the state that a block's operations change -/

/-- From `s` to `t` only the curtain, the notices and the reports change. -/
structure State.curtainStep (s t : State) : Prop where
  eq : t = { s with cc := t.cc, notices := t.notices, dl := s.dl.reported t.dl }

/-- From `s` to `t` only the Call Unit, the notices and the reports change. -/
structure State.callStep (s t : State) : Prop where
  eq : t = { s with cu := t.cu, notices := t.notices, dl := s.dl.reported t.dl }

/-- From `s` to `t` only the selections and the channel records change. -/
structure State.lampStep (s t : State) : Prop where
  eq : t = { s with os := { s.os with selections := t.os.selections }, le := { s.le with channels := t.le.channels } }

/-- From `s` to `t` only the override events, the selections and the channel records change. -/
structure State.eventStep (s t : State) : Prop where
  eq : t = { s with os := { t.os with sup := s.os.sup }, le := { s.le with channels := t.le.channels } }

/-- From `s` to `t` only the alarm, the curtain, the overrides, the channel records, the notices and the reports
change. -/
structure State.alarmStep (s t : State) : Prop where
  eq : t = { s with
    al := t.al
    cc := t.cc
    os := { t.os with sup := s.os.sup }
    le := { s.le with channels := t.le.channels }
    notices := t.notices
    dl := s.dl.reported t.dl }

namespace State

variable {s t u : State}

theorem curtainStep.refl (s : State) : s.curtainStep s := ⟨rfl⟩

theorem callStep.refl (s : State) : s.callStep s := ⟨rfl⟩

theorem lampStep.refl (s : State) : s.lampStep s := ⟨rfl⟩

theorem eventStep.refl (s : State) : s.eventStep s := ⟨rfl⟩

theorem alarmStep.refl (s : State) : s.alarmStep s := ⟨rfl⟩

theorem curtainStep.trans (h : s.curtainStep t) (k : t.curtainStep u) : s.curtainStep u := by
  constructor
  rw [k.eq, h.eq]
  rfl

theorem callStep.trans (h : s.callStep t) (k : t.callStep u) : s.callStep u := by
  constructor
  rw [k.eq, h.eq]
  rfl

theorem lampStep.trans (h : s.lampStep t) (k : t.lampStep u) : s.lampStep u := by
  constructor
  rw [k.eq, h.eq]

theorem eventStep.trans (h : s.eventStep t) (k : t.eventStep u) : s.eventStep u := by
  constructor
  rw [k.eq, h.eq]

theorem alarmStep.trans (h : s.alarmStep t) (k : t.alarmStep u) : s.alarmStep u := by
  constructor
  rw [k.eq, h.eq]
  rfl

theorem lampStep.event (h : s.lampStep t) : s.eventStep t := by
  constructor
  rw [h.eq]

theorem eventStep.alarm (h : s.eventStep t) : s.alarmStep t := by
  constructor
  rw [h.eq]
  rfl

theorem curtainStep.alarm (h : s.curtainStep t) : s.alarmStep t := by
  constructor
  rw [h.eq]
  rfl

/-! ### Reports and notices -/

theorem addReport_curtain (s : State) (r : Report) : s.curtainStep (s.addReport r) := ⟨rfl⟩

theorem addReport_call (s : State) (r : Report) : s.callStep (s.addReport r) := ⟨rfl⟩

theorem addReport_alarm (s : State) (r : Report) : s.alarmStep (s.addReport r) := ⟨rfl⟩

theorem notify_curtain (s : State) (i : Instr) : s.curtainStep (s.notify i) := ⟨rfl⟩

theorem notify_call (s : State) (i : Instr) : s.callStep (s.notify i) := ⟨rfl⟩

theorem notify_alarm (s : State) (i : Instr) : s.alarmStep (s.notify i) := ⟨rfl⟩

theorem notifyIf_call (s : State) (c : Bool) (i : Instr) : s.callStep (s.notifyIf c i) := by
  cases c <;> exact ⟨rfl⟩

theorem notifyIf_alarm (s : State) (c : Bool) (i : Instr) : s.alarmStep (s.notifyIf c i) := by
  cases c <;> exact ⟨rfl⟩

theorem takeNotice_curtain (s : State) (i : Instr) : s.curtainStep (s.takeNotice i) := ⟨rfl⟩

theorem takeNotice_call (s : State) (i : Instr) : s.callStep (s.takeNotice i) := ⟨rfl⟩

/-! ### The Curtain Controller -/

theorem curtainReport_step (s : State) (p : CurtainState) (c : CurtainCause) : s.curtainStep (s.curtainReport p c) := ⟨rfl⟩

theorem enterCurtain_step (s : State) (new : CurtainState) (r : Option FaultReason) (c : CurtainCause) :
    s.curtainStep (s.enterCurtain new r c) := ⟨rfl⟩

theorem closeRecord_step (s : State) (r : MoveRec) (o : MoveOutcome) (l : Nat) :
    s.curtainStep (s.closeRecord r o l) := ⟨rfl⟩

theorem closeMove_step (s : State) (o : MoveOutcome) : s.curtainStep (s.closeMove o) := by
  unfold closeMove
  split <;> exact ⟨rfl⟩

theorem blockMove_step (s : State) (k : MoveKind) : s.curtainStep (s.blockMove k) := ⟨rfl⟩

theorem openMove_step (s : State) (k : MoveKind) : s.curtainStep (s.openMove k) := ⟨rfl⟩

theorem warnReport_step (s : State) (f : WarnReport) : s.curtainStep (s.warnReport f) := by
  unfold warnReport
  split <;> exact ⟨rfl⟩

theorem setMove_step (s : State) (m : Option Movement) : s.curtainStep (s.setMove m) := ⟨rfl⟩

theorem setCurtain_step (s : State) (c : CurtainState) (r : Option FaultReason) : s.curtainStep (s.setCurtain c r) := ⟨rfl⟩

theorem warn_step (s : State) (f : WarnFlag) : s.curtainStep (s.warn f) := by
  unfold warn
  split
  · exact ⟨rfl⟩
  · split
    · exact ⟨rfl⟩
    · exact (setMove_step s _).trans (warnReport_step _ _)

theorem obstruct_step (s : State) : s.curtainStep s.obstruct := by
  unfold obstruct
  split
  · exact ⟨rfl⟩
  · split
    · exact s.warn_step _
    · exact ⟨rfl⟩

theorem completeMove_step (s : State) (m : Movement) : s.curtainStep (s.completeMove m) := ⟨rfl⟩

theorem tryComplete_step (s : State) : s.curtainStep s.tryComplete.1 := by
  unfold tryComplete
  split
  · exact ⟨rfl⟩
  · split <;> exact ⟨rfl⟩

theorem sampleZero_step (s : State) : s.curtainStep s.sampleZero := (obstruct_step s).trans (tryComplete_step _)

theorem readingZero_step (s : State) : s.curtainStep s.readingZero := tryComplete_step s

/-- A fold of steps is a step. -/
theorem curtainStep.foldl {α : Type} (f : State → α → State) (hf : ∀ (s : State) a, s.curtainStep (f s a)) (l : List α) (s : State) :
    s.curtainStep (l.foldl f s) := by
  induction l generalizing s with
  | nil => exact ⟨rfl⟩
  | cons a l ih => exact (hf s a).trans (ih _)

theorem actOnFlags_step (s : State) (m : Movement) (new : List FaultFlag) : s.curtainStep (s.actOnFlags m new).1 := by
  unfold actOnFlags
  dsimp only
  split
  · exact ((setMove_step s _).trans (closeMove_step _ _)).trans (enterCurtain_step _ _ _ _)
  · exact (setMove_step s _).trans (curtainStep.foldl _ (fun s f => warnReport_step s _) _ _)

theorem project_step (s : State) : s.curtainStep s.project := by
  unfold project
  split
  · exact ⟨rfl⟩
  · split
    · exact ⟨rfl⟩
    · dsimp only
      split
      · exact (setMove_step s _).trans (warn_step _ _)
      · exact setMove_step s _

theorem checkMove_step (s : State) : s.curtainStep s.checkMove := by
  unfold checkMove
  split
  · exact ⟨rfl⟩
  · dsimp only
    split
    · exact (setMove_step s _).trans (actOnFlags_step _ _ _)
    · exact ((setMove_step s _).trans (actOnFlags_step _ _ _)).trans (project_step _)

theorem gridSample_step (s : State) (m : Movement) : s.curtainStep (s.gridSample m) := by
  unfold gridSample
  dsimp only
  split
  · exact ((setMove_step s _).trans (obstruct_step _)).trans (tryComplete_step _)
  · exact (((setMove_step s _).trans (obstruct_step _)).trans (tryComplete_step _)).trans (checkMove_step _)

theorem setLock_step (s : State) (c : LockCause) : s.curtainStep (s.setLock c) := by
  unfold setLock
  split <;> exact ⟨rfl⟩

theorem replaceMove_step (s : State) (k : MoveKind) : s.curtainStep (s.replaceMove k) := by
  unfold replaceMove
  split
  · exact ⟨rfl⟩
  · exact (closeMove_step s _).trans (setMove_step _ _)

theorem blockedTrigger_step (s : State) (k : MoveKind) : s.curtainStep (s.blockedTrigger k) := by
  unfold blockedTrigger
  split
  · exact ⟨rfl⟩
  · exact ⟨rfl⟩
  · exact ⟨rfl⟩
  · exact ⟨rfl⟩
  · exact ⟨rfl⟩
  · exact ((closeMove_step s _).trans (blockMove_step _ _)).trans (setCurtain_step _ _ _)
  · exact ((closeMove_step s _).trans (blockMove_step _ _)).trans (setCurtain_step _ _ _)

theorem freeTrigger_step (s : State) (k : MoveKind) : s.curtainStep (s.freeTrigger k) := by
  unfold freeTrigger
  split
  · exact ⟨rfl⟩
  · exact ⟨rfl⟩
  · exact ⟨rfl⟩
  · exact ⟨rfl⟩
  · exact ((closeMove_step s _).trans (openMove_step _ _)).trans (setCurtain_step _ _ _)
  · exact ((closeMove_step s _).trans (openMove_step _ _)).trans (setCurtain_step _ _ _)
  · split
    · exact ⟨rfl⟩
    · exact replaceMove_step s _

theorem triggerSample_step (s : State) (c : CurtainState) (b : Bool) : s.curtainStep (s.triggerSample c b) := by
  unfold triggerSample
  split
  · exact ⟨rfl⟩
  · split
    · exact ⟨rfl⟩
    · exact readingZero_step s
  · exact sampleZero_step s

/-- The two branches of a trigger before its report and its sample. -/
theorem fireClass_step (s : State) (c : LockCause) : s.curtainStep (s.fireClass c) := by
  unfold fireClass
  dsimp only
  have h2 : s.curtainStep (if s.im.inhibit.drive then (s.setLock c).blockedTrigger c.kind
      else (s.setLock c).freeTrigger c.kind) := by
    split
    · exact (setLock_step s c).trans (blockedTrigger_step _ _)
    · exact (setLock_step s c).trans (freeTrigger_step _ _)
  generalize (if s.im.inhibit.drive then (s.setLock c).blockedTrigger c.kind
    else (s.setLock c).freeTrigger c.kind) = s2 at h2 ⊢
  have h3 : s.curtainStep (if s.cc.state ≠ s2.cc.state ∨ s.cc.lock ≠ s2.cc.lock then
      s2.curtainReport s.cc.state c.report else s2) := by
    split
    · exact h2.trans (curtainReport_step _ _ _)
    · exact h2
  split
  · exact h3
  · exact h3.trans (triggerSample_step _ _ _)

theorem stageLeftQuiet_step (s : State) : s.curtainStep s.stageLeftQuiet := by
  unfold stageLeftQuiet
  dsimp only
  split
  · refine curtainStep.trans (curtainStep.trans ?_ (closeMove_step _ _)) (enterCurtain_step _ _ _ _)
    exact ⟨rfl⟩
  · exact ⟨rfl⟩

theorem inhibitDrive_step (s : State) : s.curtainStep s.inhibitDrive := by
  unfold inhibitDrive
  split <;> first | exact ⟨rfl⟩ | exact (closeMove_step s _).trans (enterCurtain_step _ _ _ _)

theorem holdMove_step (s : State) (c : CurtainCause) : s.curtainStep (s.holdMove c) := by
  unfold holdMove
  dsimp only
  split <;> exact ⟨rfl⟩

theorem startRaise_step (s : State) : s.curtainStep s.startRaise := by
  have h1 : s.curtainStep (if s.cc.state = .held then s.closeMove .aborted else s) := by
    split
    · exact closeMove_step s _
    · exact ⟨rfl⟩
  unfold startRaise
  dsimp only
  refine curtainStep.trans (curtainStep.trans (h1.trans ?_) (enterCurtain_step _ _ _ _)) (sampleZero_step _)
  exact ⟨rfl⟩

theorem resumeMove_step (s : State) : s.curtainStep s.resumeMove := ⟨rfl⟩

theorem clearFault_step (s : State) : s.curtainStep s.clearFault := by
  unfold clearFault
  split
  split <;> exact ⟨rfl⟩

theorem dropLock_step (s : State) : s.curtainStep s.dropLock := by
  unfold dropLock
  split <;> exact ⟨rfl⟩

theorem alarmQuiet_step (s : State) : s.curtainStep s.alarmQuiet := by
  have h1 : s.curtainStep (if (s.cc.state = .lowering && s.fireMove) = true then
      (s.closeMove s.shortOutcome).setCurtain .parked none else s) := by
    split
    · exact (closeMove_step s _).trans (setCurtain_step _ _ _)
    · exact ⟨rfl⟩
  unfold alarmQuiet
  dsimp only
  split
  · exact (h1.trans (dropLock_step _)).trans (curtainReport_step _ _ _)
  · exact h1

/-! ### The Override Selector -/

theorem setLamps_step (s : State) (v : Vector Lamp 48) : s.lampStep (s.setLamps v) := ⟨rfl⟩

theorem workSelection_step (s : State) : s.lampStep s.workSelection := ⟨rfl⟩

theorem rereadSelection_step (s : State) : s.lampStep s.rereadSelection := ⟨rfl⟩

theorem setEvac_step (s : State) (b : Bool) : s.eventStep (s.setEvac b) := by
  unfold setEvac
  split <;> exact ⟨rfl⟩

theorem setFireLock_step (s : State) (b : Bool) : s.eventStep (s.setFireLock b) := by
  unfold setFireLock
  split <;> exact ⟨rfl⟩

theorem setFlick_step (s : State) (n : Fin 48) (b : Bool) : s.eventStep (s.setFlick n b) := by
  unfold setFlick
  split <;> exact ⟨rfl⟩

theorem setDeskLoss_step (s : State) (b : Bool) : s.eventStep (s.setDeskLoss b) := by
  unfold setDeskLoss
  split <;> exact ⟨rfl⟩

theorem setEvac_evac (s : State) (b : Bool) : (s.setEvac b).os.evac = b := by
  unfold setEvac
  split
  · simp_all
  · rfl

theorem setFireLock_fireLock (s : State) (b : Bool) : (s.setFireLock b).os.fireLock = b := by
  unfold setFireLock
  split
  · simp_all
  · rfl

theorem setDeskLoss_deskLoss (s : State) (b : Bool) : (s.setDeskLoss b).os.deskLoss = b := by
  unfold setDeskLoss
  split
  · simp_all
  · rfl

/-! ### The Call Unit -/

/-- A fold of steps is a step. -/
theorem callStep.foldl {α : Type} (f : State → α → State) (hf : ∀ (s : State) a, s.callStep (f s a)) (l : List α) (s : State) :
    s.callStep (l.foldl f s) := by
  induction l generalizing s with
  | nil => exact ⟨rfl⟩
  | cons a l ih => exact (hf s a).trans (ih _)

theorem grant_step (s : State) (h : Holder) (m : CircuitSet) : s.callStep (s.grant h m) := ⟨rfl⟩

theorem releaseCircuits_step (s : State) (h : Holder) : s.callStep (s.releaseCircuits h) := ⟨rfl⟩

theorem setDefaults_step (s : State) : s.callStep s.setDefaults := ⟨rfl⟩

theorem setChannel_step (s : State) (i : Fin 2) (c : MessageChannel) : s.callStep (s.setChannel i c) := ⟨rfl⟩

theorem playMessage_step (s : State) (i : Fin 2) (h : Holder) (n : Nat) : s.callStep (s.playMessage i h n) :=
  setChannel_step s i _

theorem stopPlay_step (s : State) (i : Fin 2) : s.callStep (s.stopPlay i) := setChannel_step s i _

theorem releaseChannels_step (s : State) (h : Holder) : s.callStep (s.releaseChannels h) := ⟨rfl⟩

theorem setGenerator_step (s : State) (i : Fin 2) (g : Generator) : s.callStep (s.setGenerator i g) := ⟨rfl⟩

theorem releaseGenerators_step (s : State) (id : Byte) : s.callStep (s.releaseGenerators id) := ⟨rfl⟩

theorem setCall_step (s : State) (c : Call) : s.callStep (s.setCall c) := ⟨rfl⟩

theorem takeOutputs_step (s : State) (id : Byte) (m : ChannelSet) : s.callStep (s.takeOutputs id m) := by
  unfold takeOutputs
  generalize (Vector.ofFn _ : Vector (Option Byte) 48) = v
  exact ⟨rfl⟩

theorem dropOutputs_step (s : State) (id : Byte) : s.callStep (s.dropOutputs id) := by
  unfold dropOutputs
  generalize (Vector.ofFn _ : Vector (Option Byte) 48) = v
  exact ⟨rfl⟩

theorem removeCall_step (s : State) (id : Byte) : s.callStep (s.removeCall id) := ⟨rfl⟩

theorem setStaff_step (s : State) (x : Option StaffCall) : s.callStep (s.setStaff x) := ⟨rfl⟩

theorem callReport_step (s : State) (c : Call) (n : Nat) (e : CallEvent) (w : Option CallReason) (l : CircuitSet) :
    s.callStep (s.callReport c n e w l) := addReport_call s _

theorem pageReport_step (s : State) (p : Page) (e : CallEvent) (w : Option CallReason) (g l : CircuitSet) :
    s.callStep (s.pageReport p e w g l) := addReport_call s _

theorem releaseCall_step (s : State) (id : Byte) : s.callStep (s.releaseCall id) :=
  (((releaseCircuits_step s _).trans (releaseChannels_step _ _)).trans (releaseGenerators_step _ _)).trans
    (dropOutputs_step _ _)

theorem startOn_step (s : State) (c : Call) : s.callStep (s.startOn c) :=
  ((grant_step s _ _).trans (setCall_step _ _)).trans (callReport_step _ _ _ _ _ _)

theorem playCallMessage_step (s : State) (i : Fin 2) (n : Nat) (c : Call) : s.callStep (s.playCallMessage i n c) :=
  (playMessage_step s i _ n).trans (setCall_step _ _)

theorem playStaff_step (s : State) (x : StaffCall) (n : Nat) : s.callStep (s.playStaff x n) :=
  (playMessage_step s 1 _ n).trans (setStaff_step _ _)

theorem dipNotices_step (s : State) (id : Byte) (on : Bool) : s.callStep (s.dipNotices id on) :=
  callStep.foldl _ (fun s _ => notify_call s _) _ _

theorem endCall_step (s : State) (c : Call) (e : CallEvent) (w : Option CallReason) : s.callStep (s.endCall c e w) := by
  have h1 : s.callStep (if c.dipping then s.dipNotices c.id false else s) := by
    split
    · exact dipNotices_step s _ _
    · exact ⟨rfl⟩
  unfold endCall
  dsimp only
  exact ((h1.trans (releaseCall_step _ _)).trans (removeCall_step _ _)).trans
    ((callReport_step _ _ _ _ _ _).trans (notifyIf_call _ _ _))

theorem abandon_step (s : State) (c : Call) (w : CallReason) : s.callStep (s.abandon c w) := endCall_step s c _ _

theorem callLoses_step (lost : CircuitSet) (s : State) (c : Call) : s.callStep (s.callLoses lost c) := by
  unfold callLoses
  dsimp only
  split
  · exact ⟨rfl⟩
  · split
    · exact abandon_step s _ _
    · exact ⟨rfl⟩

theorem preemptChannel_step (s : State) (i : Fin 2) : s.callStep (s.preemptChannel i) := by
  unfold preemptChannel
  split
  · split
    · exact abandon_step s _ _
    · exact ⟨rfl⟩
  · exact ⟨rfl⟩

theorem endPage_step (s : State) (p : Page) (e : CallEvent) (w : CallReason) : s.callStep (s.endPage p e w) := by
  refine callStep.trans (callStep.trans (releaseCircuits_step s .page) ?_) (pageReport_step _ _ _ _ _ _)
  exact ⟨rfl⟩

theorem pageLoses_step (s : State) (lost : CircuitSet) : s.callStep (s.pageLoses lost) := by
  unfold pageLoses
  split
  · exact ⟨rfl⟩
  · dsimp only
    split
    · exact ⟨rfl⟩
    · split
      · exact endPage_step s _ _ _
      · refine callStep.trans ?_ (pageReport_step _ _ _ _ _ _)
        exact ⟨rfl⟩

theorem takeCircuits_step (s : State) (h : Holder) (m : CircuitSet) : s.callStep (s.takeCircuits h m) :=
  ((grant_step s _ _).trans (callStep.foldl _ (fun s c => callLoses_step _ s c) _ _)).trans (pageLoses_step _ _)

theorem playChime_step (s : State) (i : Fin 2) (c : Call) : s.callStep (s.playChime i c) := by
  unfold playChime
  split <;> exact (setGenerator_step s i _).trans (setCall_step _ _)

theorem startDip_step (s : State) (c : Call) : s.callStep (s.startDip c) := by
  exact (setCall_step s _).trans (dipNotices_step _ _ _)

theorem startFlick_step (s : State) (c : Call) : s.callStep (s.startFlick c) := by
  unfold startFlick
  dsimp only
  exact (((takeOutputs_step s _ _).trans (setCall_step _ _)).trans (callReport_step _ _ _ _ _ _)).trans (startDip_step _ _)

theorem scanCall_step (s : State) (c : Call) : s.callStep (s.scanCall c) := by
  unfold scanCall
  dsimp only
  split
  · exact startFlick_step s c
  · split
    · exact abandon_step s _ _
    · split
      · exact ⟨rfl⟩
      · split
        · exact ⟨rfl⟩
        · exact (startOn_step s _).trans (playChime_step _ _ _)
  · split
    · exact abandon_step s _ _
    · split
      · exact ⟨rfl⟩
      · split
        · exact ⟨rfl⟩
        · exact (startOn_step s _).trans (playCallMessage_step _ _ _ _)

theorem scanOne_step (s : State) (id : Byte) : s.callStep (s.scanOne id) := by
  unfold scanOne
  split
  · split
    · exact scanCall_step s _
    · exact ⟨rfl⟩
  · exact ⟨rfl⟩

theorem scan_step (s : State) : s.callStep s.scan := by
  unfold scan
  split
  · exact ⟨rfl⟩
  · exact callStep.foldl _ (fun s i => scanOne_step s i) _ _

theorem endFlicks_step (s : State) : s.callStep s.endFlicks :=
  callStep.foldl _ (fun s c => abandon_step s c _) _ _

theorem clearChannelZero_step (s : State) : s.callStep s.clearChannelZero := by
  unfold clearChannelZero
  split
  · split
    · exact abandon_step s _ _
    · exact ⟨rfl⟩
  · exact ⟨rfl⟩

theorem takeEveryCircuit_step (s : State) : s.callStep s.takeEveryCircuit := by
  unfold takeEveryCircuit
  dsimp only
  exact ((grant_step s _ _).trans (callStep.foldl _ (fun s _ => abandon_step s _ _) _ _)).trans (pageLoses_step _ _)

theorem startEvacuation_step (s : State) (n : Nat) : s.callStep (s.startEvacuation n) :=
  ((clearChannelZero_step s).trans (takeEveryCircuit_step _)).trans ((playMessage_step _ _ _ _).trans ⟨rfl⟩)

theorem stopEvacuation_step (s : State) : s.callStep s.stopEvacuation := by
  unfold stopEvacuation
  split
  · refine callStep.trans (callStep.trans ((releaseCircuits_step s .evacuation).trans
      (releaseChannels_step _ .evacuation)) ?_) (scan_step _)
    exact ⟨rfl⟩
  · exact ⟨rfl⟩

theorem startStaff_step (s : State) (z : Nat) (m : Option Nat) : s.callStep (s.startStaff z m) := by
  unfold startStaff
  split
  · exact ⟨rfl⟩
  · split
    · exact ⟨rfl⟩
    · exact ((preemptChannel_step s _).trans (takeCircuits_step _ _ _)).trans
        (playStaff_step _ _ _)

theorem releaseStaff_step (s : State) : s.callStep s.releaseStaff :=
  ((releaseCircuits_step s _).trans (releaseChannels_step _ _)).trans (setStaff_step _ _)

theorem stopStaff_step (s : State) : s.callStep s.stopStaff := by
  unfold stopStaff
  split
  · exact (releaseStaff_step s).trans (scan_step _)
  · exact ⟨rfl⟩

theorem staffEnded_step (s : State) : s.callStep s.staffEnded := by
  unfold staffEnded
  split
  · exact ⟨rfl⟩
  · split
    · exact ⟨rfl⟩
    · split
      · exact playStaff_step s _ _
      · exact ⟨rfl⟩

theorem messageEnded_step (s : State) (c : Call) : s.callStep (s.messageEnded c) := by
  unfold messageEnded
  split
  · exact (endCall_step s _ _ _).trans (scan_step _)
  · exact setCall_step s _

theorem playEnded_step (s : State) (i : Fin 2) (h : Holder) : s.callStep (s.playEnded i h) := by
  unfold playEnded
  split
  · exact playMessage_step s _ _ _
  · exact (stopPlay_step s i).trans (staffEnded_step _)
  · exact stopPlay_step s i
  · exact stopPlay_step s i

theorem noteEnded_step (s : State) (i : Fin 2) (c : Call) (l : List Note) : s.callStep (s.noteEnded i c l) := by
  unfold noteEnded
  split
  · exact (setGenerator_step s i _).trans (setCall_step _ _)
  · split
    · exact (endCall_step s _ _ _).trans (scan_step _)
    · exact (setGenerator_step s i _).trans (setCall_step _ _)

theorem dipEnded_step (s : State) (c : Call) : s.callStep (s.dipEnded c) := by
  have h1 : s.callStep ((s.dipNotices c.id false).setCall { c with playback := .back (s.clock + Config.dipTicks) }) :=
    (dipNotices_step s _ _).trans (setCall_step _ _)
  unfold dipEnded
  dsimp only
  split
  · exact (h1.trans (abandon_step _ _ _)).trans (scan_step _)
  · exact h1

theorem repeatEnded_step (s : State) (c : Call) : s.callStep (s.repeatEnded c) := by
  unfold repeatEnded
  dsimp only
  split
  · exact (abandon_step s _ _).trans (scan_step _)
  · split
    · exact (endCall_step s _ _ _).trans (scan_step _)
    · exact startDip_step s _

theorem cancelScripts_step (s : State) (w : CallReason) : s.callStep (s.cancelScripts w) :=
  (callStep.foldl _ (fun s c => endCall_step s c _ _) _ _).trans (scan_step _)

theorem callTables_step (s : State) : s.callStep s.callTables :=
  (setDefaults_step s).trans (scan_step _)

/-! ### The Alarm Unit -/

/-- A fold of steps is a step. -/
theorem alarmStep.foldl {α : Type} (f : State → α → State) (hf : ∀ (s : State) a, s.alarmStep (f s a)) (l : List α) (s : State) :
    s.alarmStep (l.foldl f s) := by
  induction l generalizing s with
  | nil => exact ⟨rfl⟩
  | cons a l ih => exact (hf s a).trans (ih _)

theorem tellEvac_step (s : State) : s.alarmStep s.tellEvac :=
  alarmStep.trans ⟨rfl⟩ (setEvac_step _ true).alarm

theorem evacuate_step (s : State) (c : StageChange) : s.alarmStep (s.evacuate c) := by
  have h1 : s.alarmStep ((s.setStage .evacuate).stageReport s.al.stage c s.listTriggers) := ⟨rfl⟩
  have h2 : s.alarmStep ((if s.al.stage = .silenced then (s.setStage .evacuate).stageReport s.al.stage c s.listTriggers
      else ((s.setStage .evacuate).stageReport s.al.stage c s.listTriggers).tellEvac).notify
        (.evacuationMessageStart s.tab.params.message)) := by
    split
    · exact h1.trans (notify_alarm _ _)
    · exact (h1.trans (tellEvac_step _)).trans (notify_alarm _ _)
  have h3 := h2.trans (notifyIf_alarm _ (s.al.stage = .alert) .staffCallStop)
  unfold evacuate
  dsimp only
  split
  · exact (((h3.trans (stageLeftQuiet_step _).alarm).trans (notify_alarm _ _)).trans (notifyIf_alarm _ _ _)).trans
      (notify_alarm _ _)
  · exact ((h3.trans (notify_alarm _ _)).trans (notifyIf_alarm _ _ _)).trans (notify_alarm _ _)

theorem enterAlert_step (s : State) (c : StageChange) (z : Nat) : s.alarmStep (s.enterAlert c z) := by
  unfold enterAlert
  dsimp only
  refine alarmStep.trans (alarmStep.trans ?_ (stageLeftQuiet_step _).alarm) ⟨rfl⟩
  exact ⟨rfl⟩

theorem takeEntry_step (s : State) (e : AlarmEntry) (st : Station) : s.alarmStep (s.takeEntry e st) := by
  unfold takeEntry
  dsimp only
  split
  · split
    · exact enterAlert_step s _ _
    · exact evacuate_step s _
  · exact evacuate_step s _
  · exact evacuate_step s _
  · exact evacuate_step s _
  · exact notifyIf_alarm s _ _

theorem setLine_step (s : State) (n : Fin 32) (r : LineRec) : s.alarmStep (s.setLine n r) := ⟨rfl⟩

theorem takeClass_step (s : State) (n : Fin 32) (b : LineBody) (x : Band) : s.alarmStep (s.takeClass n b x) := by
  unfold takeClass
  dsimp only
  split
  · exact setLine_step s _ _
  · split
    · refine alarmStep.trans ?_ (takeEntry_step _ _ _)
      exact ⟨rfl⟩
    · exact ⟨rfl⟩

theorem sampleLine_step (s : State) (n : Fin 32) (c : Byte) : s.alarmStep (s.sampleLine n c) := by
  unfold sampleLine
  dsimp only
  split
  · exact ⟨rfl⟩
  · split
    · exact ⟨rfl⟩
    · split
      · refine alarmStep.trans ?_ (takeClass_step _ _ _ _)
        exact ⟨rfl⟩
      · exact ⟨rfl⟩

/-! ### A request: the paired record removed, entries marked, the block's step, the reply -/

theorem curtainStep.answer {st : Station} {tab : Tables} {h : Hdr} {code : Byte} {a : Answer}
    (k : ({ s with tab := tab }.unpaired st).curtainStep u) :
    u.putReply h code a = { s with
      cc := (u.putReply h code a).cc, tab := tab, notices := (u.putReply h code a).notices
      paired := s.paired.set st none, dl := s.dl.sent (u.putReply h code a).dl } := by
  rw [k.eq]
  rfl

theorem callStep.answer {st : Station} {tab : Tables} {h : Hdr} {code : Byte} {a : Answer}
    (k : ({ s with tab := tab }.unpaired st).callStep u) :
    u.putReply h code a = { s with
      cu := (u.putReply h code a).cu, tab := tab, notices := (u.putReply h code a).notices
      paired := s.paired.set st none, dl := s.dl.sent (u.putReply h code a).dl } := by
  rw [k.eq]
  rfl

theorem alarmStep.answer {st : Station} {tab : Tables} {h : Hdr} {code : Byte} {a : Answer}
    (k : ({ s with tab := tab }.unpaired st).alarmStep u) :
    u.putReply h code a = { s with
      al := (u.putReply h code a).al, cc := (u.putReply h code a).cc
      os := { (u.putReply h code a).os with sup := s.os.sup }
      le := { s.le with channels := (u.putReply h code a).le.channels }
      tab := tab, notices := (u.putReply h code a).notices
      paired := s.paired.set st none, dl := s.dl.sent (u.putReply h code a).dl } := by
  rw [k.eq]
  rfl

theorem markHouse_unpaired (s : State) (i : Nat) (st : Station) :
    (s.unpaired st).markHouse i = { s with tab := (s.markHouse i).tab }.unpaired st := by
  unfold markHouse unpaired
  split <;> rfl

theorem markUsed_unpaired (s : State) (x : Selector) (st a : Station) :
    (s.unpaired a).markUsed st x = { s with tab := (s.markUsed st x).tab }.unpaired a := by
  unfold markUsed
  split
  · unfold markLocal unpaired
    split <;> rfl
  · exact markHouse_unpaired s _ a

theorem markAll_unpaired (s : State) (xs : List Selector) (st a : Station) :
    (s.unpaired a).markAll st xs = { s with tab := (s.markAll st xs).tab }.unpaired a := by
  induction xs generalizing s with
  | nil => rfl
  | cons x xs ih =>
    show ((s.unpaired a).markUsed st x).markAll st xs = _
    rw [markUsed_unpaired, ih]
    rw [show s.markAll st (x :: xs) = (s.markUsed st x).markAll st xs from rfl]
    rw [← markUsed_eq, markUsed_eq]

/-! ### Selection -/

/-- R136: a selected level taken, in the words of the statements. -/
theorem select_eq_shows (c : Channel) (cycle level : Nat) : c.select cycle level = c.shows cycle level := by
  unfold Channel.select Channel.shows
  split
  · next h => subst h; rfl
  · rfl

/-- R143 to R145: what working the selection does to each output. -/
theorem workSelection_reselects (s : State) (n : Fin 48) : s.reselects s.workSelection s.os n := by
  simp only [reselects, workSelection, setLamps, lamp, Fin.getElem_fin, Vector.getElem_ofFn, Lamp.work,
    Lamp.change, select_eq_shows]
  refine ⟨fun h => ?_, fun h e => ?_, fun m h e => ?_⟩
  · simp [h]
  · simp only [h, if_false, e, and_self]
  · simp [h, e]

/-! ### The passing of time -/

theorem nextCount_lt (l : Lighting) : l.nextCount < 2 ^ l.cycle := Nat.mod_lt _ (Nat.two_pow_pos _)

/-- R25, R43, R126 and R135: all that one count can change. -/
theorem count_eq (s : State) :
    s.count = { s with
      clock := s.count.clock, cc := s.nextPins.cc, inputs := s.count.inputs, pending := s.count.pending
      le := { s.le with counter := s.le.nextCount, tickCount := s.count.le.tickCount
                        fadeHalf := s.count.le.fadeHalf } } ∨
    s.count = { s with
      pending := s.count.pending
      le := { s.le with counter := s.le.nextCount, tickCount := s.le.tickCount + 1 } } := by
  unfold count
  split
  · exact .inr rfl
  · refine .inl ?_
    unfold tick nextPins
    split <;> rfl

@[simp] theorem count_notices (s : State) : s.count.notices = s.notices := by rcases count_eq s with h | h <;> rw [h]

@[simp] theorem count_inReset (s : State) : s.count.inReset = s.inReset := by rcases count_eq s with h | h <;> rw [h]

@[simp] theorem count_tab (s : State) : s.count.tab = s.tab := by rcases count_eq s with h | h <;> rw [h]

@[simp] theorem count_paired (s : State) : s.count.paired = s.paired := by rcases count_eq s with h | h <;> rw [h]

@[simp] theorem count_perf (s : State) : s.count.perf = s.perf := by rcases count_eq s with h | h <;> rw [h]

@[simp] theorem count_watch (s : State) : s.count.watch = s.watch := by rcases count_eq s with h | h <;> rw [h]

@[simp] theorem count_al (s : State) : s.count.al = s.al := by rcases count_eq s with h | h <;> rw [h]

@[simp] theorem count_os (s : State) : s.count.os = s.os := by rcases count_eq s with h | h <;> rw [h]

@[simp] theorem count_cu (s : State) : s.count.cu = s.cu := by rcases count_eq s with h | h <;> rw [h]

@[simp] theorem count_dl (s : State) : s.count.dl = s.dl := by rcases count_eq s with h | h <;> rw [h]

@[simp] theorem count_im (s : State) : s.count.im = s.im := by rcases count_eq s with h | h <;> rw [h]

@[simp] theorem count_counter (s : State) : s.count.le.counter = s.le.nextCount := rfl

@[simp] theorem count_channels (s : State) : s.count.le.channels = s.le.channels := by
  rcases count_eq s with h | h <;> rw [h]

@[simp] theorem count_cycle (s : State) : s.count.le.cycle = s.le.cycle := by rcases count_eq s with h | h <;> rw [h]

end State

end Sys2Proof.Machine
end

