-- ==== Sys2Proof/Tests/Slice0.lean ====
section
/-! SUPPORT. The model's own tests: that WellFormed refuses an ill-formed term for each of its checks; values worked
out in the spec; and, for every statement that has hypotheses, a concrete state and operands that meet them, clause by
clause. -/

namespace Sys2Proof.Tests

open Sys2Proof.Machine

/-! ## Small states -/

/-- A part that has ended reset and the load on the default tables, with nothing waiting. -/
def up : State := { State.reset with inReset := false, im := { Maint.reset with starting := false } }

/-- A request of station 1, which the default tables hold at level 0. -/
def h1 : Hdr := { station := 1, tag := 5 }

/-- A request of station 2, which they hold as absent. -/
def h2 : Hdr := { station := 2, tag := 6 }

/-- The state that a command answers. -/
def after (i : Instr) (s : State) : State :=
  match exec i s with
  | .next t => t
  | _ => State.reset

/-- What a step answers. -/
def stepped (s : State) : State :=
  match step s with
  | .next t => t
  | _ => State.reset

/-- The status of the reply that waits in the slot. -/
def status (s : State) : Option Status :=
  match s.dl.slot with
  | some { what := .reply r _, .. } => some r.status
  | _ => none

/-- The data of the reply that waits in the slot. -/
def data (s : State) : List Byte :=
  match s.dl.slot with
  | some { what := .reply r _, .. } => r.data
  | _ => []

/-- A state with a house entry of DPL 0 written, and the limit at 128. -/
def withHouse (i : Fin 128) (b : Body) (s : State) : State :=
  { s with tab := { s.tab with limit := 128, house := s.tab.house.set i (defaultEntry b) } }

/-- A state with a local entry of DPL 0 of station 1 written. -/
def withLocal (i : Fin 16) (b : Body) (s : State) : State :=
  { s with tab := { s.tab with locals := s.tab.locals.set 1 (s.tab.locals[1].set i (defaultEntry b)) } }

/-- A state whose station 1 has a level. -/
def atLevel (l : Level) (s : State) : State :=
  { s with tab := { s.tab with stations := s.tab.stations.set 1 { present := true, cpl := l } } }

/-- A state whose curtain has a state, with its open movement and its held expiry. -/
def curtain (c : CurtainState) (m : Option Movement) (held : Option Clock) (s : State) : State :=
  { s with cc := { s.cc with state := c, move := m, heldExpiry := held, driveReady := true, settingClear := true } }

/-- An open movement of a kind, at its start. -/
def moving (k : MoveKind) : Movement := .fresh k defaultCurtain 0 0

/-- A test lowering in progress. -/
def lowering : State := curtain .lowering (some (moving .testLower)) none up

/-- A state in a stage. -/
def inStage (x : Stage) (s : State) : State := { s with al := { s.al with stage := x } }

/-- A state in a phase. -/
def inPhase (p : Phase) (s : State) : State := { s with perf := { s.perf with phase := p } }

/-- A state with a commissioning state and its work. -/
def inComm (c : CommState) (w : Option Work) (s : State) : State :=
  { s with im := { s.im with comm := c, work := w, img := true } }

/-- A call record, queued and due. -/
def call (id : Byte) (kind : CallKind) : Call :=
  { id, owner := 1, origin := .direct, entryNo := 0, due := 0, kind, zones := [1], repeats := 1, state := .queued
    source := none, granted := 0, missed := 0, done := 0, pattern := [], playback := .idle }

/-- A state with a call in the queue. -/
def queued (c : Call) (s : State) : State := { s with cu := { s.cu with queue := [c] } }

/-- A state whose generator 0 is held by a call. -/
def onGenerator (c : Call) (s : State) : State :=
  { queued c s with cu := { s.cu with
      queue := [c], generators := s.cu.generators.set 0 { holder := some c.id, note := none } } }

/-- A state whose message channel 0 plays for a holder. -/
def onChannel (x : Holder) (limit : Option Clock) (s : State) : State :=
  { s with cu := { s.cu with
      channels := s.cu.channels.set 0 { holder := some x, trigger := true, number := 3, limit } } }

/-! ## WellFormed refuses an ill-formed term for each check -/

/-- R199: more bytes than the memory holds. -/
def tooMany : List Byte := List.replicate 65537 0

theorem tooMany_length : tooMany.length = 65537 := List.length_replicate

theorem test_wellFormed_refuses_long_reads :
    (Instr.imageLoadEnd (some tooMany)).wellFormed = false ∧
    (Instr.commitWriteEnd (some tooMany)).wellFormed = false ∧
    (Instr.reloadEnd (some tooMany)).wellFormed = false := by
  simp only [Instr.wellFormed, readFits, tooMany_length]; decide

theorem test_wellFormed_refuses_a_valid_length_byte :
    (Instr.lengthByteInvalid 4).wellFormed = false ∧ (Instr.lengthByteInvalid 240).wellFormed = false ∧
    (Instr.lengthByteInvalid 3).wellFormed = true ∧ (Instr.lengthByteInvalid 241).wellFormed = true := by decide

theorem test_wellFormed_refuses_a_known_code_and_long_parameters :
    (Instr.unknownRequestCode h1 0x01 []).wellFormed = false ∧
    (Instr.unknownRequestCode h1 0x03 []).wellFormed = true ∧
    (Instr.unknownRequestCode h1 0x03 (List.replicate 237 0)).wellFormed = false := by
  refine ⟨by decide, by decide, ?_⟩
  simp only [Instr.wellFormed, paramsFit, List.length_replicate]; decide

theorem test_wellFormed_refuses_requests_longer_than_a_frame :
    (Instr.callNow h1 0 0 1 (List.replicate 117 1)).wellFormed = false ∧
    (Instr.callAt h1 0 0 0 1 (List.replicate 115 1)).wellFormed = false ∧
    (Instr.pageOpen h1 (List.replicate 118 1)).wellFormed = false ∧
    (Instr.writeObject h1 0 1 0 (List.replicate 232 0)).wellFormed = false ∧
    (Instr.writeParamsSection1 h1 0 (List.replicate 78 (250, 1))).wellFormed = false := by
  simp only [Instr.wellFormed, List.length_replicate]; decide

theorem test_wellFormed_refuses_values_no_block_sends :
    (Instr.evacuationMessageStart 0).wellFormed = false ∧ (Instr.evacuationMessageStart 256).wellFormed = false ∧
    (Instr.staffCallStart 0 none).wellFormed = false ∧ (Instr.staffCallStart 128 none).wellFormed = false ∧
    (Instr.staffCallStart 1 (some 0)).wellFormed = false ∧
    (Instr.movementNotice .raise .complete false 1201 300).wellFormed = false ∧
    (Instr.movementNotice .raise .complete false 5 49).wellFormed = false := by decide

/-! ## Values worked out in the spec -/

set_option maxRecDepth 4000 in
/-- R182: the check value of the CRC for the nine digits. -/
theorem test_crc_of_the_nine_digits :
    crc16 [0x31, 0x32, 0x33, 0x34, 0x35, 0x36, 0x37, 0x38, 0x39] = 0x29B1#16 := by decide

/-- R168: the tone of a divisor. -/
theorem test_note_tones :
    Note.hertz { divisor := 250, duration := 1 } = 2000 ∧ Note.hertz { divisor := 1000, duration := 1 } = 500 ∧
    Note.hertz { divisor := 2000, duration := 1 } = 250 := by decide

/-- Chapter 7, "a cue taking over a fade": 4095 to 1024 over 150 ticks. -/
theorem test_fade_levels :
    easeLevel 4095 1024 1 150 = 4075 ∧ easeLevel 4095 1024 50 150 = 3072 ∧ easeLevel 4095 1024 75 150 = 2560 ∧
    easeLevel 4095 1024 100 150 = 2048 := by decide

/-- Chapter 7: reload values at N = 10 and N = 8. -/
theorem test_reload_values :
    reloadOf 4075 10 = 1019 ∧ reloadOf 3072 10 = 768 ∧ reloadOf 3000 10 = 750 ∧ reloadOf 3000 8 = 188 := by decide

/-- Chapter 8: the first tick of a return. -/
theorem test_transition_levels :
    easeLevel 4095 2500 1 100 = 4080 ∧ easeLevel 4095 2500 50 100 = 3298 ∧ easeLevel 3000 1005 1 100 = 2981 := by
  decide

/-- R74: the mean of the window is truncated toward zero. -/
theorem test_filtered_truncates : filtered [-3, 0] = -1 ∧ filtered [3, 0] = 1 := by decide

/-- R12: the fields of a selector, and its reserved bits. -/
theorem test_selector_fields :
    decodeSelector 0x8203#16 = some ⟨true, 2, 3⟩ ∧ decodeSelector 0x0400#16 = none ∧
    encodeSelector ⟨true, 2, 3⟩ = 0x8203#16 := by decide

/-- R197: requests written out byte by byte. -/
theorem test_requests_from_their_bytes :
    decodeRequest h1 0x20 [0x00, 0x62] = .request (.lower h1 98) ∧
    decodeRequest h1 0x40 [0x00, 0x22, 0x04, 0x00, 0x00, 0x1E] = .request (.setLevel h1 34 1024 30) ∧
    decodeRequest h1 0x50 [0x01, 0x07, 0x02, 0x01, 0x00, 0x01] = .request (.callNow h1 1 7 2 [1]) ∧
    decodeRequest h1 0x63 [0x01, 0x02, 0x01, 0x03, 0xE8, 0x0A] = .request (.writeParamsSection1 h1 2 [(1000, 10)]) ∧
    decodeRequest h1 0x20 [0x00] = .malformed ∧ decodeRequest h1 0x62 [0x00] = .malformedWrite ∧
    decodeRequest h1 0x03 [] = .unknown := by decide

set_option maxRecDepth 10000 in
/-- R199: the outcomes of a read, in the order of their tests. -/
theorem test_load_outcomes :
    loadImage none = .default .noResponse ∧ loadImage (some [1]) = .default .noResponse ∧
    loadImage (some [2, 0, 0, 0, 0, 0, 0, 0, 0, 0, 0]) = .default .header ∧
    loadImage (some [1, 0, 0, 0, 0, 0, 0, 0, 0, 0, 0]) = .default .noResponse ∧
    loadImage (some [1, 0, 0, 0, 0, 0, 0, 0, 0, 0, 0, 0, 0]) = .default .crc := by decide

/-- Chapter 1, "a preset that names a missing channel": the inner selector fails EMPTY at pair 3. -/
theorem test_preset_with_a_missing_channel :
    let p : Body := .preset { fade := 30, pairs := [(⟨false, 0, 34⟩, 1), (⟨false, 0, 35⟩, 1), (⟨false, 0, 120⟩, 1)] }
    let t := after (.standby h1 0x8003) (withHouse 99 (.circuit { output := 0, staff := false, programme := false })
      (withLocal 3 p up))
    status t = some .eAccess ∧ data t = [4, 0, 120, 1, 3, 0] := by decide

/-- R87 and R88: four samples of one class settle a line; the fifth of it changes nothing. -/
theorem test_line_settles_at_four :
    let s1 := after (.lineSample 4 100) (after (.lineSample 4 100) (after (.lineSample 4 100) up))
    let s2 := after (.lineSample 4 100) s1
    s1.al.lines[4].state = .normal ∧ s2.al.lines[4].state = .alarm ∧ s2.al.stage = .evacuate ∧
    s2.al.list.map AlarmEntry.zone = [1] := by decide

/-- R200: the default tables meet the commit checks, and give what the capacity table holds. -/
theorem test_default_tables :
    (Tables.default.channelEntry 47).map Prod.fst = some 81 ∧ (Tables.default.lineEntry 31).map Prod.fst = some 33 ∧
    (Tables.default.curtainEntry).map Prod.fst = some 98 ∧ Tables.default.stationCount = 1 := by decide

set_option maxRecDepth 10000 in
/-- R182 and R183: a request frame, byte by byte, is answered. -/
theorem test_a_frame_is_taken :
    let s := [0xC3, 0x04, 0x01, 0x05, 0x12, 0x00].foldl (fun s b => after (.byteReceived b true) s) up
    let c := crc16 [0x04, 0x01, 0x05, 0x12, 0x00]
    let t := (halfBytes c).foldl (fun s b => after (.byteReceived b true) s) s
    status (after .takeItem t) = some .ePhase ∧ t.dl.rx = .hunt := by decide

/-- The lighting of a state, at the last PWM count of a tick of the show clock. -/
def lastCount (s : State) : Lighting := { s.le with tickCount := 20479 }

/-- R135: the counter counts, a line goes off at its high count, and the return to 0 is a cycle start. -/
theorem test_pwm_counts :
    let at_ (count : Nat) : State := { up with le :=
      { up.le with counter := count, forced := false
                   channels := up.le.channels.set 0 { Channel.reset with high := 500 } } }
    (stepped (at_ 0)).le.counter = 1 ∧ (stepped (at_ 498)).dimmerOn 0 = true ∧ (stepped (at_ 499)).dimmerOn 0 = false ∧
    (stepped (at_ 499)).pending = [] ∧ (stepped (at_ 1023)).le.counter = 0 ∧
    (stepped (at_ 1023)).pending = [.cycleStart] ∧ (stepped (at_ 1023)).clock = 0 := by decide

/-- Chapter 4, "a fire trigger in the middle of a test", at its sample 12. -/
def sampleTwelve : Movement :=
  { moving .testLower with nextSample := 10, previous := some 1110, window := [100, 105, 108, 110], allowance := 12
                           elapsed := 12 }

set_option maxRecDepth 4000 in
/-- The same example: sample 0 of the FIRE record reads the inputs as they stand, and keeps the grid and the window. -/
theorem test_trigger_in_the_middle_of_a_test :
    let moved : Pins := { position := 1155, top := false, bottom := false, settingClear := true, driveReady := true }
    let s := stepped { curtain .lowering (some sampleTwelve) none up with
      clock := 3, inputs := [moved], le := lastCount up }
    let t := after .fireTrigger s
    let u := after (.curtainSample 1222 false false true) { t with clock := 10 }
    s.clock = 4 ∧ s.pending = [] ∧
    t.cc.move.map (fun m => (m.record.kind, m.record.startPosition, m.window, m.allowance, m.elapsed)) =
      some (.fire, 1155, [100, 105, 108, 110], 12, 0) ∧
    u.cc.move.map (fun m => (m.window, m.allowance, m.elapsed, m.lateCount)) =
      some ([105, 108, 110, 112], 13, 1, 0) := by decide

/-- R82: BOTTOM made on a PARKED curtain, its change not yet taken: a LOWER completes at sample 0. -/
theorem test_lower_completes_at_sample_zero :
    let made : Pins := { position := 24000, top := false, bottom := true, settingClear := true, driveReady := true }
    let s := stepped { curtain .parked none none up with inputs := [made], le := lastCount up }
    let t := after (.lower h1 98) s
    s.cc.state = .parked ∧ s.pending = [.limitChange 24000 false true] ∧
    t.cc.state = .inn ∧ t.notices = [.movementNotice .testLower .complete false 0 300] := by decide

/-- R106 and R143: a new entry into EVACUATE leaves no end of EVAC waiting. -/
theorem test_evacuation_keeps_evac :
    let s : State := { up with notices := [.evacNotice false, .alarmQuiet], os := { up.os with evac := true } }
    let t := after (.lineSample 4 100) (after (.lineSample 4 100) (after (.lineSample 4 100)
      (after (.lineSample 4 100) s)))
    t.al.stage = .evacuate ∧ t.os.evac = true ∧ t.notices.head? = some .alarmQuiet ∧
    Instr.evacNotice false ∉ t.notices := by decide

/-! ## Witnesses: states and operands that meet the hypotheses of each statement -/

/-- A frame error. -/
def frameError : FrameError := { reason := .crc, station := 1, tag := 0, count := 7 }

/-- A state with a frame in the slot. -/
def busySlot : State := { up with dl := { up.dl with slot := some { order := 0, what := .error frameError } } }

/-- A receive-buffer item. -/
def errorItem : RxItem := .error frameError

/-- A report in the queue. -/
def aReport : Queued := { order := 0, stamp := 0, report := .summary (Performance.cleared .dark) true }

/-- A state of the link. -/
def withLink (d : Link) : State := { up with dl := d }

theorem witness_StepTakesTheFront :
    ({ up with pending := [.frameTimeout, .takeItem] } : State).pending = .frameTimeout :: [.takeItem] := rfl

theorem witness_IdleStep :
    (State.reset.pending = [] ∧ State.reset.inReset = true) ∧
    ({ up with notices := [.alarmQuiet] } : State).notices = .alarmQuiet :: [] ∧
    (let s : State := { up with im := Maint.reset }
     s.inReset = false ∧ s.notices = [] ∧ s.im.starting = true ∧ s.im.img = false) ∧
    (let s : State := { up with im := { up.im with comm := .reloading } }
     s.pending = [] ∧ s.notices = [] ∧ s.im.starting = false ∧ s.im.comm = .reloading ∧ s.im.img = false) ∧
    (let s : State := { up with im := { Maint.reset with img := true } }
     s.im.starting = true ∧ s.im.img = true ∧ s.takes = false ∧ s.dueEvents = []) ∧
    (let s := withLink { up.dl with buffer := [errorItem] }
     s.pending = [] ∧ s.notices = [] ∧ s.im.starting = false ∧ s.im.comm ≠ .reloading ∧ s.takes = true) ∧
    (let s : State := { up with cc := { up.cc with permit := some 0 } }
     s.pending = [] ∧ s.notices = [] ∧ s.im.starting = false ∧ s.im.comm ≠ .reloading ∧ s.takes = false ∧
      s.dueEvents ≠ []) ∧
    (up.pending = [] ∧ up.inReset = false ∧ up.notices = [] ∧ up.im.starting = false ∧ up.im.comm ≠ .reloading ∧
      up.takes = false ∧ up.dueEvents = [] ∧ up.inputs = []) ∧
    (let s : State := { up with le := { up.le with counter := 1023, tickCount := 20478 } }
     s.pending = [] ∧ s.takes = false ∧ s.dueEvents = [] ∧ s.le.tickCount + 1 < 20480 ∧ (stepped s).clock = 0 ∧
      (stepped s).pending = [.cycleStart] ∧ (stepped s).le.tickCount = 20479) ∧
    (let s : State := { up with le := { lastCount up with counter := 1023, fadeHalf := true } }
     s.pending = [] ∧ s.takes = false ∧ s.dueEvents = [] ∧ s.inputs = [] ∧ 20480 ≤ s.le.tickCount + 1 ∧
      (stepped s).clock = 1 ∧ (stepped s).pending = [.fadeTick, .cycleStart] ∧ (stepped s).le.tickCount = 0) ∧
    (let s : State := { up with inputs := [{ position := 9, top := true, bottom := false, settingClear := true,
                                             driveReady := true }], le := lastCount up }
     s.takes = false ∧ s.dueEvents = [] ∧ s.inputs.length = 1 ∧ (stepped s).cc.position = 9 ∧
      (stepped s).pending =
        [.limitChange 9 true false, .settingLineChange true, .driveReadyChange true]) ∧
    (let s : State := { lowering with clock := 10 }
     s.pending = [] ∧ s.cc.state.moving = true ∧ s.cc.move = some (moving .testLower) ∧
      reached s.clock (moving .testLower).nextSample = true ∧ reached (9#32) (moving .testLower).nextSample = false) := by
  decide

theorem witness_ResetLeavesItsValues : State.reset.inReset = true := rfl

theorem witness_NothingHappensInReset :
    State.reset.inReset = true ∧ Instr.takeItem ≠ .powerOnReset ∧
    ∀ lr img p a b c d, Instr.takeItem ≠ .resetEnd lr img p a b c d :=
  ⟨rfl, by decide, fun _ _ _ _ _ _ _ => by simp⟩

theorem witness_ReceiverTakesBytes :
    (up.inReset = false ∧ up.dl.rx = .hunt ∧ (0xC3 : Byte) = 0xC3#8 ∧ (0xC2 : Byte) ≠ 0xC3#8) ∧
    (let s := withLink { up.dl with rx := .length }
     s.dl.rx = .length ∧ s.dl.rx ≠ .hunt ∧ 4 ≤ (4 : Byte).toNat ∧ (240 : Byte).toNat ≤ 240 ∧ (3 : Byte).toNat < 4 ∧
      240 < (241 : Byte).toNat) ∧
    (withLink { up.dl with rx := .body, n := 4, bytes := [4] }).dl.rx = .body ∧
    (let s := withLink { up.dl with rx := .check, n := 4, bytes := [4, 1, 0, 0, 0] }
     s.dl.rx = .check ∧ s.dl.bytes.length < s.dl.n + 2) ∧
    (let s := withLink { up.dl with rx := .check, n := 4, bytes := [4, 1, 0, 0, 0, 0] }
     s.dl.rx = .check ∧ s.dl.n + 2 ≤ s.dl.bytes.length) := by decide

theorem witness_WholeFrameIsReceived :
    Link.reset.rx = .hunt ∧ ([] : List Byte).length ≤ 236 ∧ (List.replicate 236 (0 : Byte)).length ≤ 236 :=
  ⟨rfl, by decide, Nat.le_of_eq List.length_replicate⟩

theorem witness_WholeFrameIsReceived_crc :
    (busySlot.inReset = false ∧ busySlot.dl.line = none ∧
      (after .transmitStart busySlot).dl.line.map List.length = some 8) ∧
    4 ≤ ([1, 2, 3, 4] : List Byte).length ∧ (List.replicate 240 (0 : Byte)).length ≤ 240 ∧
    (let s := withLink { up.dl with rx := .check, n := 4, bytes := [4, 1, 0, 1, 0] ++ [0] }
     s.inReset = false ∧ s.dl.rx = .check ∧ s.dl.n = ([1, 0, 1, 0] : List Byte).length) :=
  ⟨by decide, by decide, Nat.le_of_eq List.length_replicate, by decide⟩

theorem witness_RequestRoundTrip :
    (headerOf (.status h1) = some h1 ∧ (Instr.status h1).wellFormed = true) ∧
    headerOf (.pageOpen h1 (List.replicate 117 1)) = some h1 ∧
    (Instr.pageOpen h1 (List.replicate 117 1)).wellFormed = true := by
  refine ⟨by decide, rfl, ?_⟩
  simp only [Instr.wellFormed, List.length_replicate]; decide

theorem witness_BufferIsTakenInOrder :
    (let s := withLink { up.dl with buffer := [errorItem] }
     s.inReset = false ∧ s.dl.slot = none ∧ s.dl.restarting = false ∧ s.dl.buffer = errorItem :: []) ∧
    (let i := Instr.prepare h1
     headerOf i = some h1 ∧ i.wellFormed = true ∧
      (withLink { up.dl with buffer := [.request h1 (codeOf i) (encodeParams i)] }).dl.buffer =
        [.request h1 (codeOf i) (encodeParams i)]) ∧
    (withLink { up.dl with buffer := [.request h1 3 [], errorItem] }).dl.buffer = .request h1 3 [] :: [errorItem] ∧
    (3 : Byte).toNat ∉ requestCodes ∧ (0xFF : Byte).toNat ∉ requestCodes ∧ up.dl.buffer = [] ∧
    up.linkFree = true ∧ busySlot.linkFree = false := by decide

theorem witness_RequestsWaitOrAreRefused :
    (headerOf (.go h1) = some h1 ∧ busySlot.inReset = false ∧ busySlot.linkFree = false ∧
      busySlot.dl.buffer.length < 8) ∧
    (let s := withLink { up.dl with buffer := List.replicate 7 errorItem }
     s.linkFree = false ∧ s.dl.buffer.length < 8) ∧
    (let s := withLink { up.dl with buffer := List.replicate 8 errorItem }
     s.linkFree = false ∧ 8 ≤ s.dl.buffer.length) ∧
    (let s : State := { up with im := Maint.reset }
     s.linkFree = true ∧ s.im.starting = true ∧ codeOf (.go h1) ≠ 1#8 ∧ codeOf (.go h1) ≠ 2#8) := by decide

theorem witness_RefusedRequestChangesNothing :
    up.ready ∧ headerOf (.go h2) = some h2 ∧ up.stationPresent h2.station = false ∧
    status (after (.go h1) up) = some .eNothing ∧ Status.eNothing.taken = false := by
  simp only [State.ready]; decide

theorem witness_TransmitStartsTheOldest :
    (up.inReset = false ∧ up.dl.slot = none ∧ up.dl.reports = []) ∧
    (let s := withLink { up.dl with reports := [aReport] }
     s.dl.slot = none ∧ s.dl.reports = aReport :: [] ∧ s.im.starting = false ∧ s.dl.restarting = false) ∧
    (let x : Slot := { order := 0, what := .reply { hdr := h1, code := 1, status := .ok, data := [] } 0 }
     let s := withLink { up.dl with slot := some x, reports := [aReport] }
     s.dl.slot = some x ∧ x.begun = false ∧ s.dl.reports = aReport :: [] ∧ aReport.order ≤ x.order) ∧
    (let x : Slot := { order := 0, what := .error frameError }
     busySlot.dl.slot = some x ∧ ∀ q ∈ busySlot.dl.reports.head?, x.order < q.order) ∧
    (let x : Slot := { order := 1, what := .reply { hdr := h1, code := 1, status := .ok, data := [] } 1 }
     (withLink { up.dl with slot := some x, reports := [aReport] }).dl.slot = some x ∧ x.begun = true) := by decide

theorem witness_StatusAndDescribeReply :
    up.inReset = false ∧ up.linkFree = true ∧ up.stationPresent h1.station = true := by decide

theorem witness_AccessCheckOrder :
    up.ready ∧ (0x0400#16).extractLsb' 10 5 ≠ 0 ∧ (0x4000#16).extractLsb' 10 5 ≠ 0 ∧
    (decodeSelector 34#16 = some ⟨false, 0, 34⟩ ∧ up.stationPresent h2.station = false) ∧
    (decodeSelector 0#16 = some ⟨false, 0, 0⟩ ∧ Selector.isNull ⟨false, 0, 0⟩ = true ∧
      up.stationPresent h1.station = true) ∧
    (Selector.isNull ⟨false, 0, 99⟩ = false ∧ up.tab.beyond ⟨false, 0, 99⟩ = true) ∧
    (let s := withHouse 120 (.curtain defaultCurtain) up
     s.tab.beyond ⟨false, 0, 119⟩ = false ∧ s.tab.entry? 1 ⟨false, 0, 119⟩ = none) ∧
    (up.tab.beyond ⟨false, 0, 98⟩ = false ∧
      ∃ e, up.tab.entry? 1 ⟨false, 0, 98⟩ = some e ∧ e.type ≠ .channel) ∧
    (∃ e, up.tab.entry? 1 ⟨false, 1, 34⟩ = some e ∧ e.type = .channel ∧ e.dpl.val < max (up.cpl 1).val (1 : Level).val) ∧
    (∃ b, (up.tab.entry? 1 ⟨false, 0, 34⟩).bind Entry.body = some (.channel b)) :=
  ⟨⟨rfl, rfl, rfl⟩, by decide, by decide, by decide, by decide, by decide, by decide,
    ⟨by decide, _, rfl, by decide⟩, ⟨_, rfl, by decide, by decide⟩, ⟨_, rfl⟩⟩

theorem witness_TablesAreRead :
    up.ready ∧ up.passes 1 34#16 .any ⟨false, 0, 34⟩ ∧ (up.tab.entry? 1 ⟨false, 0, 34⟩).isSome = true ∧
    15 < (16 : Byte).toNat ∧ up.stationPresent 1 = true ∧ (2 : Station) ≠ 1 ∧
    1 < ((atLevel 2 up).cpl 1).val ∧ (atLevel 2 up).ready ∧ (up.cpl 1).val ≤ 1 ∧ ((atLevel 1 up).cpl 1).val ≤ 1 := by
  simp only [State.ready, State.passes]; decide

/-- A gate of an action, at house entry 99. -/
def gated (a : GateAction) (target : Level) (zone : Option Nat) (s : State) : State :=
  withHouse 99 (.gate { action := a, target, zone }) s

/-- A list of sixteen entries of gates other than gate 99. -/
def sixteenGates : List AlarmEntry :=
  (List.range 16).map fun i => { origin := .gate (i + 100), zone := 1, time := 0, staged := false }

theorem witness_GatesAct_acknowledge :
    (let s := gated .alarmAck 2 none up
     s.ready ∧ s.passes 1 99#16 (.house .gate) ⟨false, 0, 99⟩ ∧
      s.tab.gateAt 99 = some { action := .alarmAck, target := 2, zone := none } ∧ 1 < (2 : Level).val) ∧
    (let s := gated .alarmAck 1 none up
     s.ready ∧ s.passes 1 99#16 (.house .gate) ⟨false, 0, 99⟩ ∧ (1 : Level).val ≤ 1 ∧ s.al.stage ≠ .alert) ∧
    (let s := gated .alarmAck 1 none (inStage .alert up)
     s.ready ∧ s.passes 1 99#16 (.house .gate) ⟨false, 0, 99⟩ ∧ s.al.stage = .alert) := by
  simp only [State.ready, State.passes]; decide

theorem witness_GatesAct_drop :
    (let s := gated .manualDrop 1 none up
     s.ready ∧ s.passes 1 99#16 (.house .gate) ⟨false, 0, 99⟩ ∧ (s.tab.gateCurtainFault 1).isSome = true) ∧
    (let s := gated .manualDrop 0 none up
     s.ready ∧ s.passes 1 99#16 (.house .gate) ⟨false, 0, 99⟩ ∧ s.tab.gateCurtainFault 0 = none ∧
      s.im.inhibit.drive = false ∧ s.cc.bottom = false ∧ s.cc.state ≠ .inn) ∧
    (let s := gated .manualDrop 0 none { up with cc := { up.cc with bottom := true } }
     s.im.inhibit.drive = false ∧ s.cc.bottom = true ∧ s.cc.state ≠ .inn ∧ s.cc.state ≠ .lowering) ∧
    (after (.useGate h1 99) (gated .manualDrop 0 none up)).cc.state = .lowering := by
  simp only [State.ready, State.passes]; decide

theorem witness_GatesAct_call :
    (let s := gated .manualCall 0 (some 1) up
     s.ready ∧ s.passes 1 99#16 (.house .gate) ⟨false, 0, 99⟩ ∧ s.tab.gateZoneFault 0 1 = none ∧
      s.gatePosition 99 = none ∧ s.gateEntries < 16) ∧
    (let s := gated .manualCall 0 (some 1) { up with al := { up.al with
       list := [{ origin := .gate 99, zone := 1, time := 0, staged := false }] } }
     s.gatePosition 99 = some 1) ∧
    (let s := gated .manualCall 0 (some 1) { up with al := { up.al with list := sixteenGates } }
     s.gatePosition 99 = none ∧ 16 ≤ s.gateEntries) ∧
    (after (.useGate h1 99) (gated .manualCall 0 (some 1) up)).al.stage = .evacuate := by
  simp only [State.ready, State.passes]; decide

/-- A state in which station 1 has an enable that ends at a clock value. -/
def enabled (a : PairedAction) (e : Clock) (s : State) : State :=
  { s with paired := s.paired.set 1 (some { action := a, expiry := e }) }

theorem witness_PairedRequestsAreEnabled :
    (up.ready ∧ up.admits 1 1 ∧ up.admits 1 0 ∧ 1 < (2 : Byte).toNat) ∧
    ((atLevel 2 up).stationPresent 1 = true ∧ 1 < ((atLevel 2 up).cpl 1).val ∧ 0 < ((atLevel 1 up).cpl 1).val) ∧
    (let s := enabled .restart 1 up
     s.ready ∧ s.admits 1 0 ∧ s.paired[(1 : Station)] = some { action := .restart, expiry := 1 } ∧
      reached s.clock 1 = false ∧ s.im.busy = false ∧ s.perf.phase = .dark ∧ s.al.stage = .quiet ∧
      s.cc.state.moving = false ∧ status (after (.restart h1) s) = some .ok) ∧
    up.paired[(1 : Station)] = none ∧
    ((withLink { up.dl with restarting := true }).dl.restarting = true ∧ up.dl.slot = none ∧
      up.dl.restarting = false) := by
  simp only [State.ready, State.admits]; decide

theorem witness_SetClockMovesDueTimes :
    up.ready ∧ up.admits 1 1 ∧ (inPhase .prepare up).perf.phase ≠ .dark ∧
    (up.perf.phase = .dark ∧ (queued (call 1 .flick) up).cu.queue ≠ [] ∧ up.cu.queue = []) ∧
    ({ Supervision.reset with enabled := true } : Supervision).enabled = true ∧ up.os.sup.enabled = false ∧
    (after (.setClock h1 7) up).clock = 7 := by
  simp only [State.ready, State.admits]; decide

/-- A state with a group inhibited. -/
def driveInhibited (s : State) : State := { s with im := { s.im with inhibit := s.im.inhibit.put .drive true } }

/-- A state with line 4 isolated. -/
def isolated (x : Isolation) (s : State) : State :=
  { s with al := { s.al with lines := s.al.lines.set 4 { LineRec.reset with state := .isolated, isolation := some x } } }

/-- An isolation without an end, and one that ends at 100. -/
def indefinite : Isolation := { kind := .indefinite, start := 0, stop := none, station := 1 }
def timed : Isolation := { kind := .timed, start := 0, stop := some 100, station := 1 }

theorem witness_HousePhases_refused :
    ((atLevel 2 up).ready ∧ (atLevel 2 up).stationPresent 1 = true ∧ 1 < ((atLevel 2 up).cpl 1).val) ∧
    (let s := inComm .opened none up
     s.ready ∧ s.admits 1 1 ∧ s.im.comm ≠ .closed ∧ status (after (.closeHouse h1) s) = some .eCommission) ∧
    (inComm .writing (some { station := 1, due := 0, image := [] }) up).im.comm ≠ .closed ∧
    (let s : State := { curtain .out none none up with perf := { Performance.cleared .interval with act := 9 } }
     s.perf.phase = .interval ∧ s.al.stage = .quiet ∧ s.cc.state = .out ∧ 9 ≤ s.perf.act ∧
      status (after (.beginAct h1) s) = some .eFull) := by
  simp only [State.ready, State.admits]; decide

theorem witness_HousePhases :
    (up.ready ∧ up.admits 1 1 ∧ up.im.comm = .closed ∧ up.perf.phase = .dark) ∧
    (let s := inPhase .prepare up
     s.ready ∧ s.admits 1 1 ∧ s.im.comm = .closed ∧ s.perf.phase = .prepare ∧ s.al.stage = .quiet ∧
      s.im.inhibit.any = false ∧ s.al.indefinite = false ∧ status (after (.openHouse h1) s) = some .ok) ∧
    (inStage .alert (inPhase .prepare up)).al.stage ≠ .quiet ∧
    (driveInhibited (inPhase .prepare up)).im.inhibit.any = true ∧
    (isolated indefinite (inPhase .prepare up)).al.indefinite = true ∧
    (inPhase .showDown up).perf.phase = .showDown ∧ (inPhase .act up).perf.phase ≠ .showDown ∧
    status (after (.goDark h1) (inPhase .showDown up)) = some .ok := by
  simp only [State.ready, State.admits]; decide

/-- A script call that plays. -/
def scriptCall : Call := { call 2 .flick with origin := .script 1, state := .playing, playback := .dip 50 }

set_option maxRecDepth 4000 in
theorem witness_ActAndCloseCancelScripts :
    (let s := curtain .out none none (inPhase .houseOpen up)
     s.ready ∧ s.admits 1 1 ∧ s.im.comm = .closed ∧ s.perf.phase = .houseOpen ∧ s.al.stage = .quiet ∧
      s.cc.state = .out ∧ s.perf.act < 9 ∧ status (after (.beginAct h1) s) = some .ok) ∧
    (let s := inPhase .interval up
     s.perf.phase = .interval ∧ s.al.stage = .quiet ∧ s.cc.state ≠ .out) ∧
    (let s := isolated timed (inPhase .act up)
     s.ready ∧ s.admits 1 1 ∧ s.im.comm = .closed ∧ s.perf.phase = .act ∧
      s.al.lines[(4 : Fin 32)].isolation = some timed ∧ timed.kind = .timed ∧
      (after (.closeHouse h1) s).al.lines[(4 : Fin 32)].state = .normal) ∧
    scriptCall.unstartedScript = false ∧ scriptCall.state ≠ .waiting ∧ indefinite.kind ≠ .timed := by
  simp only [State.ready, State.admits]; decide

/-- A script of one flick, ten seconds in, to the whole house. -/
def aScript : Body := .script [{ offset := 10, kind := .flick, zones := [⟨false, 0, 1⟩], repeats := 1 }]

theorem witness_IntervalBeginsAndExtends_begin :
    (let s := withLocal 0 aScript (inPhase .act up)
     s.ready ∧ s.admits 1 1 ∧ s.im.comm = .closed ∧ s.perf.phase = .act ∧ s.al.stage = .quiet ∧ s.perf.interval < 8 ∧
      s.passes 1 0x8000#16 (.inLocal .script) ⟨true, 0, 0⟩ ∧
      s.tab.innerFault 1 (s.cpl 1) (.house .zone) (scriptInner (s.tab.scriptAt 1 0)) = none ∧
      s.cu.queue.length + (s.tab.scriptAt 1 0).length ≤ 32 ∧ (s.cu.queue.map Call.id).Nodup ∧
      data (after (.beginInterval h1 1 0x8000) s) = [4, 0, 1, 1, 1, 0, 0, 0x17, 0x70] ∧
      (after (.beginInterval h1 1 0x8000) s).cu.queue.map Call.due = [5000]) ∧
    (let s := withLocal 0 aScript (inComm .opened none up)
     s.passes 1 0x8000#16 (.inLocal .script) ⟨true, 0, 0⟩ ∧ s.im.comm ≠ .closed) ∧
    (let s := withLocal 0 aScript up
     s.passes 1 0x8000#16 (.inLocal .script) ⟨true, 0, 0⟩ ∧ s.perf.phase ≠ .act) ∧
    (inStage .alert (inPhase .act up)).al.stage ≠ .quiet ∧
    (8 ≤ ({ Performance.cleared .act with interval := 8 } : Performance).interval) := by
  simp only [State.ready, State.admits, State.passes]; decide

/-- A queue of 32 calls. -/
def fullQueue (s : State) : State :=
  { s with cu := { s.cu with queue := (List.range 32).map fun i => call (BitVec.ofNat 8 i) .flick } }

/-- A script that names a zone which is not there. -/
def badScript : Body := .script [{ offset := 10, kind := .flick, zones := [⟨false, 0, 120⟩], repeats := 1 }]

theorem witness_IntervalBeginsAndExtends_partial :
    (let s := fullQueue (withLocal 0 aScript (inPhase .act up))
     s.perf.phase = .act ∧ 32 < s.cu.queue.length + (s.tab.scriptAt 1 0).length ∧
      status (after (.beginInterval h1 1 0x8000) s) = some .wPartial) ∧
    (let s := withLocal 0 badScript (inPhase .act up)
     s.passes 1 0x8000#16 (.inLocal .script) ⟨true, 0, 0⟩ ∧
      (s.tab.innerFault 1 (s.cpl 1) (.house .zone) (scriptInner (s.tab.scriptAt 1 0))).isSome = true ∧
      data (after (.beginInterval h1 1 0x8000) s) = [4, 0, 1, 3, 3, 0, 120, 1, 1, 1, 0, 0, 0x17, 0x70]) := by
  simp only [State.passes]; decide

/-- A state in INTERVAL with an end. -/
def interval (stop : Clock) (s : State) : State :=
  { s with perf := { s.perf with phase := .interval, interval := 1, intervalEnd := some stop }, watch := true }

theorem witness_IntervalBeginsAndExtends_extend :
    (let s := interval 6000 up
     s.ready ∧ s.admits 1 1 ∧ s.im.comm = .closed ∧ s.perf.phase = .interval ∧ s.perf.intervalEnd = some 6000) ∧
    (after (.extendInterval h1 1) (interval 6000 up)).perf.intervalEnd = some 12000 ∧
    (after (.extendInterval h1 1) (interval 8634000 up)).perf.intervalEnd = some 8640000 ∧
    (after (.extendInterval h1 1) (interval 8634001 up)).perf.intervalEnd = some 8640000 ∧
    (let c : Call := { call 1 .flick with origin := .script 1 }
     c.origin = .script 1 ∧ c.state ≠ .playing) ∧
    (let c : Call := { call 1 .flick with origin := .script 1, state := .waiting }
     (after (.extendInterval h1 1) (queued c (interval 6000 up))).cu.queue =
       [{ c with due := 6000, state := .queued }]) := by
  simp only [State.ready, State.admits]; decide

theorem witness_SequencerTakesNotices :
    up.inReset = false ∧ up.watch = false ∧
    (let s := interval 0 up
     s.inReset = false ∧ s.watch = true ∧ s.perf.intervalEnd = some 0 ∧ reached s.clock 0 = true) ∧
    (after (.movementNotice .testLower .complete false 300 300) (inPhase .houseOpen up)).perf.iron = .lowered := by
  decide

/-- A state at rest in PARKED with the drive ready and the setting line clear. -/
def parked : State := curtain .parked none none up

/-- A state with the fire lock set, and one with a raise permit. -/
def locked (s : State) : State := { s with cc := { s.cc with lock := some .manual } }
def permitted (s : State) : State := { s with cc := { s.cc with permit := some 3000 } }

theorem witness_LowerAndRaiseStart_lower :
    (parked.ready ∧ parked.passes 1 98#16 (.house .curtain) ⟨false, 0, 98⟩ ∧ parked.cc.state = .parked ∧
      parked.cc.driveReady = true ∧ parked.cc.settingClear = true ∧ parked.im.inhibit.drive = false ∧
      parked.cc.bottom = false ∧ status (after (.lower h1 98) parked) = some .ok) ∧
    up.cc.driveReady = false ∧ up.cc.settingClear = false ∧ (curtain .inn none none up).cc.state ≠ .out ∧
    (driveInhibited parked).im.inhibit.drive = true ∧
    (let s : State := { parked with cc := { parked.cc with bottom := true } }
     s.cc.bottom = true ∧ (after (.lower h1 98) s).cc.state = .inn) := by
  simp only [State.ready, State.passes]; decide

theorem witness_LowerAndRaiseStart_permit :
    up.ready ∧ up.admits 1 1 ∧ (inStage .alert up).al.stage ≠ .quiet ∧ up.al.stage = .quiet ∧
    (locked up).cc.lock.isSome = true ∧ up.cc.lock = none ∧ (permitted up).cc.permit = some 3000 ∧
    (after (.permitRaise h1) up).cc.permit = some 3000 := by
  simp only [State.ready, State.admits]; decide

theorem witness_LowerAndRaiseStart_raise :
    (let s := permitted parked
     s.ready ∧ s.passes 1 98#16 (.house .curtain) ⟨false, 0, 98⟩ ∧ s.cc.state = .parked ∧ s.al.stage = .quiet ∧
      s.cc.lock = none ∧ s.cc.permit.isSome = true ∧ s.cc.driveReady = true ∧ s.im.inhibit.drive = false ∧
      s.cc.top = false ∧ (after (.raise h1 98) s).cc.state = .raising) ∧
    (let s : State := { permitted parked with cc := { (permitted parked).cc with top := true } }
     s.cc.top = true ∧ (after (.raise h1 98) s).cc.state = .out) ∧
    (curtain .out none none up).cc.state ≠ .inn ∧ (inStage .alert parked).al.stage ≠ .quiet ∧
    (locked parked).cc.lock.isSome = true ∧ parked.cc.permit = none ∧ (permitted up).cc.driveReady = false ∧
    (driveInhibited (permitted parked)).im.inhibit.drive = true := by
  simp only [State.ready, State.passes]; decide

/-- A raise and a fire-class lowering in progress, and a held lowering. -/
def raising : State := curtain .raising (some (moving .raise)) none up
def falling : State := locked (curtain .lowering (some (moving .fire)) none up)
def held : State := curtain .held (some (moving .testLower)) (some 0) up
def heldRaise : State := curtain .held (some (moving .raise)) (some 60000) up

theorem witness_HoldAndResume_hold :
    (parked.ready ∧ parked.passes 1 98#16 (.house .curtain) ⟨false, 0, 98⟩ ∧ parked.cc.state.moving = false) ∧
    (falling.ready ∧ falling.passes 1 98#16 (.house .curtain) ⟨false, 0, 98⟩ ∧ falling.cc.state = .lowering ∧
      falling.fireMove = true) ∧
    (lowering.ready ∧ lowering.passes 1 98#16 (.house .curtain) ⟨false, 0, 98⟩ ∧ lowering.cc.state.moving = true ∧
      lowering.cc.move = some (moving .testLower) ∧ lowering.fireMove = false) ∧
    (raising.cc.state = .raising ∧ (after (.hold h1 98) raising).cc.state = .held) := by
  simp only [State.ready, State.passes]; decide

theorem witness_HoldAndResume_resume :
    (held.ready ∧ held.passes 1 98#16 (.house .curtain) ⟨false, 0, 98⟩ ∧ held.cc.state = .held ∧
      held.cc.move = some (moving .testLower) ∧ held.cc.driveReady = true ∧ held.im.inhibit.drive = false ∧
      (moving .testLower).record.kind ≠ .raise ∧ held.cc.settingClear = true ∧
      (after (.resume h1 98) held).cc.state = .lowering) ∧
    ((moving .raise).record.kind = .raise ∧ heldRaise.al.stage = .quiet ∧ heldRaise.cc.lock = none ∧
      (after (.resume h1 98) heldRaise).cc.state = .raising) ∧
    parked.cc.state ≠ .held ∧ held.cc.heldExpiry = some 0 ∧ reached held.clock 0 = true ∧
    heldRaise.cc.heldExpiry = some 60000 ∧ reached heldRaise.clock 60000 = false := by
  simp only [State.ready, State.passes]; decide

/-- A state in FAULT with the limits as given. -/
def faulted (top bottom : Bool) : State :=
  { up with cc := { up.cc with state := .fault, reason := some .limitsBoth, top, bottom } }

theorem witness_FaultAndLockAreCleared :
    (up.ready ∧ up.admits 1 1 ∧ up.cc.state ≠ .fault ∧ up.cc.lock = none) ∧
    ((atLevel 2 up).ready ∧ (atLevel 2 up).stationPresent 1 = true ∧ 1 < ((atLevel 2 up).cpl 1).val) ∧
    ((faulted true true).cc.state = .fault ∧ (faulted true true).cc.top = true ∧
      (after (.clearFault h1) (faulted true true)).cc.state = .fault) ∧
    (after (.clearFault h1) (faulted true false)).cc.state = .out ∧
    (after (.clearFault h1) (faulted false true)).cc.state = .inn ∧
    (after (.clearFault h1) (faulted false false)).cc.state = .parked ∧
    ((locked up).cc.lock.isSome = true ∧ (inStage .alert (locked up)).al.stage ≠ .quiet ∧
      falling.cc.lock.isSome = true ∧ falling.al.stage = .quiet ∧ falling.cc.state = .lowering ∧
      falling.fireMove = true) ∧
    ((locked lowering).cc.lock.isSome = true ∧ (locked lowering).fireMove = false ∧
      (after (.releaseLock h1) (locked lowering)).cc.lock = none) := by
  simp only [State.ready, State.admits]; decide

theorem witness_InputsChangeCurtain :
    (up.inReset = false ∧ up.cc.state = .parked ∧ (after (.limitChange 0 false false) up).cc.state = .parked ∧
      (after (.limitChange 0 true true) up).cc.state = .fault ∧ lowering.cc.state ≠ .parked) ∧
    (lowering.inReset = false ∧ lowering.cc.settingClear = true ∧ lowering.cc.state = .lowering ∧
      lowering.cc.move = some (moving .testLower) ∧ lowering.fireMove = false ∧
      (after (.settingLineChange false) lowering).cc.state = .held) ∧
    (let s : State := { lowering with cc := { lowering.cc with settingClear := false } }
     s.cc.settingClear = false ∧ (after (.settingLineChange false) s).cc.state = .held) ∧
    ((after (.limitChange 0 true false) { parked with cc := { parked.cc with top := true } }).cc.state = .out ∧
      (faulted true false).cc.state ≠ .parked ∧ (after (.limitChange 3 true false) (faulted true true)).cc.top = true) ∧
    (falling.cc.state = .lowering ∧ falling.fireMove = true ∧ falling.cc.driveReady = true) ∧
    (raising.cc.driveReady = true ∧ raising.cc.state.moving = true ∧ raising.cc.move = some (moving .raise) ∧
      (after (.driveReadyChange false) raising).cc.state = .parked) ∧
    up.cc.settingClear = false ∧ up.cc.driveReady = false := by decide

theorem witness_FireClassMovements :
    (up.inReset = false ∧ up.im.inhibit.drive = false ∧ up.cc.state = .parked ∧ up.cc.bottom = false ∧
      up.cc.lock = none ∧ (after .fireTrigger up).cc.state = .lowering) ∧
    ((faulted true true).cc.bottom = true ∧ (after .fireTrigger (faulted true true)).cc.state = .inn) ∧
    (falling.cc.state = .lowering ∧ falling.fireMove = true) ∧
    (lowering.cc.move = some (moving .testLower) ∧ (moving .testLower).record.kind.fireClass = false ∧
      lowering.cc.bottom = false) ∧
    ((driveInhibited up).im.inhibit.drive = true ∧ (driveInhibited held).cc.state = .held ∧
      (after .fireTrigger (driveInhibited held)).cc.state = .parked) ∧
    (curtain .inn none none up).cc.state = .inn ∧ (locked up).cc.lock.isSome = true ∧
    ((moving .fire).record.kind.fireClass = true ∧ falling.cc.move = some (moving .fire) ∧
      (after .alarmQuiet falling).cc.state = .parked) := by decide

/-- A state at the time of the sample that an open movement stands before, at clock 10. -/
def sampling (c : CurtainState) (m : Movement) : State := { curtain c (some m) none up with clock := 10 }

theorem witness_CurtainSampleSupervises :
    (up.inReset = false ∧ up.cc.state.moving = false) ∧
    (let s := sampling .lowering (moving .testLower)
     s.inReset = false ∧ s.cc.state.moving = true ∧ s.cc.move = some (moving .testLower) ∧
      reached s.clock (moving .testLower).nextSample = true ∧ reached lowering.clock (moving .testLower).nextSample = false ∧
      (after (.curtainSample 0 false true true) s).cc.state = .inn ∧
      (after (.curtainSample 100 false false true) s).cc.state = .lowering) ∧
    (after (.curtainSample 0 true false true) (sampling .raising (moving .raise))).cc.state = .out := by decide

/-- R76 to R79 and R81: the third sample in a row below the fast band, after the allowance, ends a test lowering and
marks a fire-class one; the second does not, and no sample of the allowance counts. -/
theorem witness_CurtainSampleSupervises_fast :
    (let m : Movement := { moving .testLower with allowance := 9, underCount := 2 }
     (after (.curtainSample 1 false false true) (sampling .lowering m)).cc.reason = some (.flag .underspeed) ∧
      (after (.curtainSample 1 false false true) (sampling .lowering { m with underCount := 1 })).cc.state = .lowering ∧
      (after (.curtainSample 1 false false true) (sampling .lowering { m with allowance := 8 })).cc.state = .lowering) ∧
    (let m : Movement := { moving .fire with allowance := 9, overCount := 2 }
     let t := after (.curtainSample 201 false false true) (sampling .lowering m)
     t.cc.state = .lowering ∧ t.cc.move.map (fun n => n.record.faults) = some [.overspeed] ∧
      ((after (.curtainSample 200 false false true) (sampling .lowering m)).cc.move.map fun n => n.record.faults) =
        some []) ∧
    (let m : Movement := { moving .testLower with elapsed := 300 }
     (after (.curtainSample 1 false false true) (sampling .lowering m)).cc.move.map (fun n => n.record.faults) =
       some [.overtime]) ∧
    (let m : Movement := { moving .testLower with elapsed := 299 }
     (after (.curtainSample 1 false false true) (sampling .lowering m)).cc.move.map (fun n => n.record.faults) =
       some []) := by decide

/-- R75, R78, R80 and R83: in the slow zone, at the stall, at the third late projection and in a raise. -/
theorem witness_CurtainSampleSupervises_slow :
    (let m : Movement := { moving .testLower with allowance := 20, slowCount := some 4, dashpotCount := 2,
                                                  previous := some 21000 }
     (after (.curtainSample 21061 false false true) (sampling .lowering m)).cc.reason = some (.flag .dashpot) ∧
      (after (.curtainSample 21060 false false true) (sampling .lowering m)).cc.state = .lowering ∧
      (after (.curtainSample 21061 false false true) (sampling .lowering { m with slowCount := some 3 })).cc.state =
        .lowering) ∧
    (let m : Movement := { moving .testLower with allowance := 20, slowCount := some 4, stallCount := 19,
                                                  previous := some 21000 }
     (after (.curtainSample 21000 false false true) (sampling .lowering m)).cc.reason = some (.flag .stall) ∧
      (after (.curtainSample 21001 false false true) (sampling .lowering m)).cc.state = .lowering) ∧
    (let m : Movement := { moving .fire with allowance := 9, lateCount := 2 }
     (after (.curtainSample 1 false false true) (sampling .lowering m)).cc.move.map (fun n => n.record.warns) =
       some [.late]) ∧
    (let m : Movement := { moving .raise with allowance := 9, raiseStallCount := 2, previous := some 100 }
     (after (.curtainSample 71 false false true) (sampling .raising m)).cc.reason = some (.flag .raiseStall) ∧
      (after (.curtainSample 70 false false true) (sampling .raising m)).cc.state = .raising) := by decide

theorem witness_FireLoweringGoesOn :
    falling.curtainLaw ∧ Instr.fadeTick.wellFormed = true ∧ falling.cc.state = .lowering ∧ falling.fireMove = true ∧
    exec .fadeTick falling = .next (after .fadeTick falling) :=
  ⟨by simp only [State.curtainLaw]; decide, by decide, by decide, by decide, rfl⟩

/-- A line record in a state after some samples of a band, and a state with it as line 4. -/
def lineRec (b : Band) (old : LineState) (run : Nat) : LineRec :=
  { LineRec.reset with state := old, candidate := some b, run }
def lineAt (b : Band) (old : LineState) (run : Nat) (s : State) : State :=
  { s with al := { s.al with lines := s.al.lines.set 4 (lineRec b old run) } }

/-- A state whose line 4 is a detector of a staged zone, in HOUSE_OPEN. -/
def stagedHouse : State :=
  inPhase .houseOpen (withHouse 1 (.zone { kind := .audience, staged := true, curtainTrigger := true, wholeHouse := true
                                           channels := [], circuits := [], staffMessage := 2 }) up)

theorem witness_LineSampleDebounces :
    (up.inReset = false ∧ (isolated timed up).al.lines[(4 : Fin 32)].state = .isolated) ∧
    (let s := { up with tab := { up.tab with limit := 2 } }
     s.lineEntry 4 = none) ∧
    ((up.lineEntry 4).map Prod.fst = some 6 ∧ up.al.lines[(4 : Fin 32)].state ≠ .isolated) ∧
    bandOf 15 = .opened ∧ bandOf 16 = .normal ∧ bandOf 95 = .normal ∧ bandOf 96 = .alarm ∧ bandOf 199 = .alarm ∧
    bandOf 200 = .short ∧
    ((after (.lineSample 4 0) (lineAt .opened .normal 2 up)).al.lines[(4 : Fin 32)].state = .normal) ∧
    ((after (.lineSample 4 0) (lineAt .opened .normal 3 up)).al.lines[(4 : Fin 32)].state = .opened) ∧
    ((after (.lineSample 4 50) (lineAt .normal .normal 3 up)).al.lines[(4 : Fin 32)].state = .normal) ∧
    ((after (.lineSample 4 255) (lineAt .short .alarm 3 up)).al.lines[(4 : Fin 32)].state = .alarm) := by decide

theorem witness_LineSampleDebounces_alarm :
    (let t := after (.lineSample 4 96) (lineAt .alarm .normal 3 stagedHouse)
     t.al.stage = .alert ∧ t.al.ackDue = some 3000) ∧
    (let t := after (.lineSample 4 199) (lineAt .alarm .normal 3 up)
     t.al.stage = .evacuate ∧ t.al.list.length = 1) := by decide

set_option maxRecDepth 4000 in
theorem witness_IsolationStands :
    (up.ready ∧ up.passes 1 6#16 (.house .line) ⟨false, 0, 6⟩ ∧ (up.tab.lineAt 6).map LineBody.line = some 4 ∧
      up.al.lines[(4 : Fin 32)].state ≠ .alarm ∧ up.perf.phase.audience = false ∧
      (after (.isolate h1 6 0) up).al.lines[(4 : Fin 32)].state = .isolated ∧
      status (after (.deisolate h1 6) up) = some .eNothing) ∧
    (let s := lineAt .alarm .alarm 4 up
     s.al.lines[(4 : Fin 32)].state = .alarm) ∧
    ((inPhase .act up).perf.phase.audience = true ∧ (inPhase .act up).isolatable 4 = false ∧
      status (after (.isolate h1 6 1) (inPhase .act up)) = some .eParam) ∧
    (let s := isolated timed up
     s.ready ∧ s.al.lines[(4 : Fin 32)].state = .isolated ∧ s.al.lines[(4 : Fin 32)].isolation = some timed ∧
      timed.stop = some 100 ∧ reached s.clock 100 = false ∧ reached ({ s with clock := 100 } : State).clock 100 = true) ∧
    (after (.isolate h1 6 255) up).al.lines[(4 : Fin 32)].isolation =
      some { kind := .timed, start := 0, stop := some 180000, station := 1 } := by
  simp only [State.ready, State.passes]; decide

set_option maxRecDepth 10000 in
theorem witness_ReadsChangeNothing :
    up.ready ∧ up.stationPresent h1.station = true ∧ (data (after (.readLines h1) up)).length = 672 := by
  simp only [State.ready]; decide

/-- The stages with what stands in each. -/
def anEntry : AlarmEntry := { origin := .line 4, zone := 1, time := 0, staged := true }
def alerted (due : Clock) : State :=
  { up with al := { up.al with stage := .alert, list := [anEntry], ackDue := some due } }
def investigated (due : Clock) : State :=
  { up with al := { up.al with stage := .investigate, list := [anEntry], invDue := some due
                               ackBy := some { station := 1, gate := none } } }
def evacuated : State := { up with al := { up.al with stage := .evacuate, list := [anEntry], sounders := true } }

theorem witness_StageRequestsAndTimers :
    ((atLevel 2 up).ready ∧ (atLevel 2 up).stationPresent 1 = true ∧ 1 < ((atLevel 2 up).cpl 1).val) ∧
    (up.ready ∧ up.admits 1 1 ∧ up.al.stage ≠ .alert ∧ up.al.stage ≠ .investigate ∧ up.al.stage ≠ .evacuate) ∧
    ((alerted 0).ready ∧ (alerted 0).admits 1 1 ∧ (alerted 0).al.stage = .alert ∧
      (after (.acknowledge h1) (alerted 0)).al.stage = .investigate) ∧
    (evacuated.ready ∧ evacuated.admits 1 1 ∧ evacuated.al.stage = .evacuate ∧
      (after (.silence h1) evacuated).al.stage = .silenced) ∧
    ((alerted 0).al.ackDue = some 0 ∧ reached (alerted 0).clock 0 = true ∧
      (after .ackTimeout (alerted 0)).al.stage = .evacuate) ∧
    ((investigated 0).al.stage = .investigate ∧ (investigated 0).al.invDue = some 0 ∧
      reached (investigated 0).clock 0 = true ∧ (after .investigateTimeout (investigated 0)).al.stage = .evacuate) ∧
    (reached (alerted 1).clock 1 = false ∧ (alerted 1).al.ackDue = some 1 ∧ (investigated 1).al.invDue = some 1) ∧
    (Instr.evacNotice false ∉
      (after .ackTimeout { alerted 0 with notices := [.evacNotice false, .alarmQuiet] }).notices) := by
  simp only [State.ready, State.admits]; decide

theorem witness_GroupsAreInhibited_sounders :
    (let s := alerted 0
     let t := after .ackTimeout s
     s.inReset = false ∧ s.al.sounders = false ∧ exec .ackTimeout s = .next t ∧ t.al.sounders = true ∧
      t.sounderOn 3 = true ∧ t.dl.reports.length = 1) ∧
    (alerted 0).sounderLaw ∧ State.reset.inReset = true := by
  refine ⟨⟨by decide, by decide, rfl, by decide, by decide, by decide⟩, ?_, rfl⟩
  simp only [State.sounderLaw]; decide

theorem witness_AlarmResetReturnsToQuiet :
    (up.ready ∧ up.admits 1 1 ∧ up.paired[(1 : Station)] = none) ∧
    (let s := enabled .alarm 1 up
     s.ready ∧ s.paired[(1 : Station)] = some { action := .alarm, expiry := 1 } ∧ reached s.clock 1 = false ∧
      s.al.stage = .quiet) ∧
    (let s := enabled .alarm 1 (lineAt .alarm .alarm 4 evacuated)
     s.ready ∧ s.admits 1 1 ∧ s.al.stage ≠ .quiet ∧ s.al.lines[(4 : Fin 32)].state = .alarm ∧
      (after (.alarmReset h1) s).al.stage = .quiet ∧ (after (.alarmReset h1) s).al.knockEnd = some 6000) ∧
    (let s : State := { up with al := { up.al with knockEnd := some 0 } }
     s.al.knockEnd = some 0 ∧ reached s.clock 0 = true) := by
  simp only [State.ready, State.admits]; decide

/-- A preset of two channels, and a cue of it that waits. -/
def aPreset : PresetBody := { fade := 30, pairs := [(⟨false, 0, 34⟩, 1024), (⟨false, 0, 35⟩, 0)] }
def cued : State :=
  let s := withLocal 3 (.preset aPreset) up
  { s with le := { s.le with cues := s.le.cues.set 1 (some 3) } }

theorem witness_FadesAndCuesStart :
    (up.ready ∧ up.passes 1 34#16 (.house .channel) ⟨false, 0, 34⟩ ∧
      (up.tab.channelAt 34).map ChannelBody.output = some 0 ∧ up.passes 1 81#16 (.house .channel) ⟨false, 0, 81⟩ ∧
      (up.tab.channelAt 81).map ChannelBody.output = some 47) ∧
    (let s := withLocal 3 (.preset aPreset) up
     s.ready ∧ s.passes 1 0x8003#16 (.inLocal .preset) ⟨true, 0, 3⟩ ∧ s.tab.presetAt 1 3 = some aPreset ∧
      s.tab.innerFault 1 (s.cpl 1) (.house .channel) aPreset.inner = none) ∧
    (let p : PresetBody := { aPreset with pairs := [(⟨false, 0, 120⟩, 1)] }
     (up.tab.innerFault 1 (up.cpl 1) (.house .channel) p.inner).isSome = true) ∧
    (up.stationPresent 1 = true ∧ up.le.cues[(1 : Station)] = none) ∧
    (cued.ready ∧ cued.stationPresent 1 = true ∧ cued.le.cues[(1 : Station)] = some 3 ∧
      cued.tab.presetAt 1 3 = some aPreset ∧ status (after (.go h1) cued) = some .ok) := by
  simp only [State.ready, State.passes]; decide

/-- A state with desk supervision enabled by station 1. -/
def supervised (lock loss : Bool) (due : Option Clock) : State :=
  { up with os := { up.os with
      deskLoss := loss
      sup := { enabled := true, locked := lock, window := 5, station := some 1, deadline := due } } }

theorem witness_CycleLengthIsTaken :
    ((atLevel 3 up).ready ∧ (atLevel 3 up).stationPresent 1 = true ∧ 2 < ((atLevel 3 up).cpl 1).val) ∧
    (up.ready ∧ up.admits 1 2 ∧ (7 : Byte).toNat < 8 ∧ 11 < (12 : Byte).toNat ∧ 8 ≤ (8 : Byte).toNat ∧
      (11 : Byte).toNat ≤ 11 ∧ up.os.sup.enabled = false) ∧
    (supervised false false (some 50)).os.sup.enabled = true ∧
    (let s : State := { up with le := { up.le with pendingCycle := some 8 } }
     s.inReset = false ∧ (after .cycleStart s).le.cycle = 8 ∧
      (after .cycleStart s).le.channels[(0 : Fin 48)].high = 256) := by
  simp only [State.ready, State.admits]; decide

/-- A state with channel 0 before the last tick of a fade, and a transition on channel 1. -/
def lastTick : Fade := { start := 4095, target := 0, n := 1, k := 0, owner := 1 }
def returning : Selection := { source := .primary, transition := some { origin := 0, j := 0, m := 100 } }
def fading : State :=
  { up with le := { up.le with channels := up.le.channels.set 0 { Channel.reset with fade := some lastTick } }
            os := { up.os with selections := up.os.selections.set 1 returning } }

theorem witness_FadeTickMovesLevels :
    fading.inReset = false ∧
    (fading.le.channels[(0 : Fin 48)].fade = some lastTick ∧
      fading.le.channels[(1 : Fin 48)].fade = none) ∧
    (let d := (after .fadeTick fading).le.channels[(0 : Fin 48)]
     d.primary = 0 ∧ d.fade = none ∧ d.reload = 0) ∧
    (fading.os.selections[(1 : Fin 48)].source = fading.os.sourceOf 1 (fading.tab.governing 1) ∧
      fading.os.selections[(1 : Fin 48)].transition = some { origin := 0, j := 0, m := 100 }) ∧
    1 ≤ 1 ∧ 4095 ≤ 4095 := by decide

theorem witness_SourcesAreSelected :
    (up.inReset = false ∧ ({ up.os with evac := false } : Overrides) = up.os ∧
      ({ up.os with evac := true } : Overrides) ≠ up.os) ∧
    ((after (.evacNotice true) up).os.selections[(0 : Fin 48)].source = .emergency) ∧
    ({ up.os with flick := up.os.flick ||| channelBit 47 } : Overrides) ≠ up.os ∧
    (let s := after (.fireLockNotice true) up
     (after (.fireLockNotice false) s).os.selections[(0 : Fin 48)].transition.isSome = true) ∧
    (easeTicks .primary .emergency = none ∧ easeTicks .emergency .primary = some 100 ∧
      easeTicks .primary .hold = some 250) ∧
    (up.os.sourceOf 0 (up.tab.governing 0) = up.os.selections[(0 : Fin 48)].source ∧
      up.os.selections[(0 : Fin 48)].transition = none ∧ up.cu.circuits[(0 : Fin 16)].holder = none) := by decide

/-- A state whose channel 0 goes to its hold level on a desk loss. -/
def holding (s : State) : State :=
  withHouse 34 (.channel { output := 0, start := 4095, emergency := 4095, hold := 1024, flick := 4095
                           mask := { evac := true, fireLock := false, deskLoss := true, flick := false } }) s

theorem witness_DeskIsSupervised :
    (up.ready ∧ up.admits 1 1 ∧ 1 < (2 : Byte).toNat ∧ (1 : Byte).toNat ≤ 1 ∧ up.os.sup.enabled = false) ∧
    (let s := supervised false false (some 50)
     s.ready ∧ s.admits 1 1 ∧ s.os.sup.enabled = true ∧ s.os.deskLoss = false ∧ s.os.sup.locked = false ∧
      max 1 (6 : Byte).toNat ≠ s.os.sup.window ∧ max 1 (5 : Byte).toNat = s.os.sup.window ∧
      s.os.sup.station = some 1 ∧ s.stationPresent 1 = true ∧ s.os.sup.deadline = some 50 ∧
      reached s.clock 50 = false) ∧
    ((supervised true false (some 0)).os.sup.locked = true ∧
      reached (supervised true false (some 0)).clock 0 = true ∧
      (after .deskDeadline (supervised true false (some 0))).os.deskLoss = true ∧
      (after .deskDeadline (holding (supervised true false (some 0)))).os.selections[(0 : Fin 48)].source = .hold) ∧
    (supervised false true none).os.deskLoss = true ∧ up.os.sup.station ≠ some 1 := by
  simp only [State.ready, State.admits]; decide

theorem witness_CallsJoinAndAreCancelled_join :
    (up.ready ∧ requestKind 1 255 = some (.message 255) ∧ requestKind 0 7 = some (.chime 7) ∧ 1 ≤ [1#16].length ∧
      [1#16].length ≤ 8 ∧ up.passesAll 1 [1#16] (.house .zone) [⟨false, 0, 1⟩] ∧ up.cu.queue.length < 32 ∧
      up.cu.nextEntry ≤ 4294967295 ∧ up.cu.find up.cu.nextId = none ∧
      status (after (.callNow h1 1 255 1 [1]) up) = some .ok ∧
      (after (.callAt h1 500 0 7 1 [1]) up).cu.queue.length = 1) ∧
    32 ≤ (fullQueue up).cu.queue.length ∧
    (queued (call 0 .flick) up).cu.find 0 ≠ none := by
  simp only [State.ready, State.passesAll]; decide

/-- A flick call in a dip, whose outputs are channels 0 and 1. -/
def dipping : Call := { call 7 .flick with state := .playing, playback := .dip 50 }
def flicking (c : Call) : State :=
  { queued c up with cu := { (queued c up).cu with flickOwner := (up.cu.flickOwner.set 0 (some c.id)).set 1 (some c.id) } }

theorem witness_CallsJoinAndAreCancelled_cancel :
    (up.ready ∧ up.stationPresent 1 = true ∧ up.cu.find 7 = none) ∧
    (let s := atLevel 2 (queued { call 7 .flick with owner := 3 } up)
     s.ready ∧ (s.cu.find 7).map Call.owner = some 3 ∧ 1 < (s.cpl 1).val) ∧
    (let s := flicking dipping
     s.ready ∧ s.cu.find 7 = some dipping ∧ dipping.owner = 1 ∧ dipping.playback = .dip 50 ∧
      s.cu.flickOwner[(0 : Fin 48)] = some 7 ∧ (after (.callCancel h1 7) s).cu.queue = [] ∧
      (after (.callCancel h1 7) s).cu.flickOwner[(0 : Fin 48)] = none) := by
  simp only [State.ready]; decide

/-- A page of station 1 on circuit 0, with its limit. -/
def paging (limit : Clock) : State :=
  { up with cu := { up.cu with
      page := some { owner := 1, zones := [1], limit, missed := 0 }
      circuits := up.cu.circuits.set 0 { holder := some .page, programme := false } } }

/-- Every circuit held by the evacuation message. -/
def allHeld : State :=
  { up with cu := { up.cu with circuits := Vector.ofFn fun _ => { holder := some .evacuation, programme := false } } }

/-- A zone without circuits. -/
def emptyZone : Body :=
  .zone { kind := .audience, staged := false, curtainTrigger := false, wholeHouse := false, channels := [], circuits := []
          staffMessage := 1 }

theorem witness_PageOpensAndCloses :
    (up.ready ∧ up.passesAll 1 [1#16] (.house .zone) [⟨false, 0, 1⟩] ∧ up.cu.page = none ∧
      up.tab.resolveCircuits [1] ≠ 0 ∧ up.cu.grantable 2 (up.tab.resolveCircuits [1]) ≠ 0 ∧
      status (after (.pageOpen h1 [1]) up) = some .ok) ∧
    (allHeld.cu.page = none ∧ allHeld.cu.grantable 2 (allHeld.tab.resolveCircuits [1]) = 0) ∧
    (let s := withHouse 99 emptyZone up
     s.passesAll 1 [99#16] (.house .zone) [⟨false, 0, 99⟩] ∧ s.tab.resolveCircuits [99] = 0) ∧
    ((paging 0).ready ∧ (paging 0).stationPresent 1 = true ∧ (paging 0).cu.page.isSome = true ∧
      reached (paging 0).clock 0 = true ∧ reached (paging 1).clock 1 = false ∧
      (after .pageLimit (paging 0)).cu.page = none) := by
  simp only [State.ready, State.passesAll]; decide

/-- A queued call of each kind that is due. -/
def dueChime : State := queued (call 1 (.chime 0)) up
def dueMessage : State := queued (call 1 (.message 9)) up
def dueFlick : State := queued (call 1 .flick) up

theorem up_holds_nothing :
    (∀ n : Fin 16, up.cu.circuits[n].holder = none) ∧ (∀ i : Fin 2, up.cu.generators[i].holder = none) ∧
    ∀ i : Fin 2, up.cu.channels[i].holder = none := by decide

theorem callLaw_of_one (k : CallKind) : (queued (call 1 k) up).callLaw := by
  refine ⟨?_, ?_, fun n id h => ?_, fun i id h => ?_, fun i id h => ?_⟩
  · show 1 ≤ 32; decide
  · show [(1 : Byte)].Nodup; decide
  · exact absurd ((up_holds_nothing.1 n).symm.trans h) (by simp)
  · exact absurd ((up_holds_nothing.2.1 i).symm.trans h) (by simp)
  · exact absurd ((up_holds_nothing.2.2 i).symm.trans h) (by simp)

/-- A chime that plays. -/
def ringing (id : Byte) : Call := { call id (.chime 0) with state := .playing, source := some 0 }

/-- A due chime while two others hold the generators, and a due message while both message channels are held. -/
def chimeWaits : State :=
  { up with cu := { up.cu with
      queue := [call 1 (.chime 0), ringing 8, ringing 9]
      generators := Vector.ofFn fun i => { holder := some (if i = 0 then 8 else 9), note := none } } }
def messageWaits : State :=
  { dueMessage with cu := { dueMessage.cu with channels := Vector.ofFn fun i =>
      { holder := some (if i = 0 then .evacuation else .staffCall), trigger := true, number := 1, limit := none } } }

theorem callLaw_of_chimeWaits : chimeWaits.callLaw := by
  have held : ∀ i : Fin 2, chimeWaits.cu.generators[i].holder = some (if i = 0 then 8 else 9) := by decide
  refine ⟨by decide, by decide, fun n id h => ?_, fun i id h => ?_, fun i id h => ?_⟩
  · exact absurd ((up_holds_nothing.1 n).symm.trans h) (by simp)
  · have hid : id = if i = 0 then 8 else 9 := (Option.some.inj ((held i).symm.trans h)).symm
    subst hid
    revert i; unfold Calls.sounds; decide
  · exact absurd ((up_holds_nothing.2.2 i).symm.trans h) (by simp)

theorem callLaw_of_messageWaits : messageWaits.callLaw := by
  have held : ∀ i : Fin 2, messageWaits.cu.channels[i].holder = some (if i = 0 then .evacuation else .staffCall) := by
    decide
  refine ⟨by decide, by decide, fun n id h => ?_, fun i id h => ?_, fun i id h => ?_⟩
  · exact absurd ((up_holds_nothing.1 n).symm.trans h) (by simp)
  · exact absurd ((up_holds_nothing.2.1 i).symm.trans h) (by simp)
  · have := Option.some.inj ((held i).symm.trans h)
    split at this <;> simp at this

/-- R166: a call with a free circuit and no free source of its kind waits. -/
theorem witness_DueCallStarts_no_source :
    (call 1 (.chime 0) ∈ chimeWaits.cu.queue ∧ (∀ d ∈ chimeWaits.cu.queue, d.state ≠ .waiting) ∧
      chimeWaits.al.stage.clearing = false ∧ chimeWaits.cu.freeGenerator = none ∧
      chimeWaits.tab.resolveCircuits [1] &&& chimeWaits.cu.freeCircuits ≠ 0 ∧
      (after (.callDue 1) chimeWaits).cu.queue.map Call.state = [.waiting, .playing, .playing]) ∧
    (call 1 (.message 9) ∈ messageWaits.cu.queue ∧ messageWaits.cu.freeChannel = none ∧
      messageWaits.tab.resolveCircuits [1] &&& messageWaits.cu.freeCircuits ≠ 0 ∧
      (after (.callDue 1) messageWaits).cu.queue.map Call.state = [.waiting]) := by decide

/-- R5, R6, R161, R166 and R170: what a whole-house zone, a listed zone with a missing member and a missing zone
reach. -/
theorem witness_DueCallStarts_zones :
    let listed : Body := .zone { kind := .audience, staged := false, curtainTrigger := false, wholeHouse := false
                                 channels := [34, 81, 120], circuits := [83, 83, 97, 2], staffMessage := 1 }
    let t := (withHouse 99 listed (withHouse 97 (.circuit { output := 15, staff := false, programme := false }) up)).tab
    t.resolveCircuits [1] = 0xFFFF#16 ∧ t.resolveCircuits [99] = 0x8002#16 ∧ t.resolveCircuits [100] = 0 ∧
    t.resolveChannels [99, 100] = 0x800000000001#48 ∧ t.staffCircuits 99 = 2#16 ∧ t.staffCircuits 1 = 0x7FFF#16 := by
  decide

/-- R4, R166 and R170: of two entries with one output, a zone that lists the lower index reaches the output and a zone
that lists the higher one does not; a whole-house zone reaches it once. -/
theorem witness_DueCallStarts_governed :
    let zone (channels circuits : List Nat) : Body :=
      .zone { kind := .audience, staged := false, curtainTrigger := false, wholeHouse := false, channels, circuits
              staffMessage := 1 }
    let doubled := withHouse 101 (.circuit { output := 1, staff := true, programme := false })
      (withHouse 102 (.channel { output := 0, start := 0, emergency := 0, hold := 0, flick := 0
                                 mask := { evac := false, fireLock := false, deskLoss := false, flick := true } }) up)
    let lower := (withHouse 99 (zone [34] [83]) doubled).tab
    let higher := (withHouse 99 (zone [102] [101]) doubled).tab
    lower.resolveCircuits [99] = 2#16 ∧ lower.resolveChannels [99] = 1#48 ∧ lower.staffCircuits 99 = 2#16 ∧
    higher.resolveCircuits [99] = 0 ∧ higher.resolveChannels [99] = 0 ∧ higher.staffCircuits 99 = 0 ∧
    higher.resolveCircuits [1] = 0xFFFF#16 := by
  decide

theorem witness_DueCallStarts :
    dueChime.callLaw ∧ dueMessage.callLaw ∧ dueFlick.callLaw ∧
    (dueChime.inReset = false ∧ call 1 (.chime 0) ∈ dueChime.cu.queue ∧ (call 1 (.chime 0)).state = .queued ∧
      (call 1 (.chime 0)).playback = .idle ∧ reached dueChime.clock 0 = true ∧
      (∀ d ∈ dueChime.cu.queue, d.state ≠ .waiting) ∧ dueChime.al.stage.clearing = false ∧
      dueChime.cu.freeGenerator = some 0 ∧ (dueChime.tab.pattern 0).length = 1 ∧
      dueChime.tab.resolveCircuits [1] &&& dueChime.cu.freeCircuits ≠ 0) ∧
    (dueMessage.cu.freeChannel = some 0 ∧ (after (.callDue 1) dueMessage).cu.channels[(0 : Fin 2)].number = 9) ∧
    ((after (.callDue 1) dueFlick).cu.flickOwner[(47 : Fin 48)] = some 1) ∧
    (inStage .silenced dueFlick).al.stage.clearing = true ∧
    (let s : State := { allHeld with cu := { allHeld.cu with queue := [call 1 (.chime 0)] } }
     s.tab.resolveCircuits [1] ≠ 0 ∧ s.tab.resolveCircuits [1] &&& s.cu.freeCircuits = 0) ∧
    dueChime.tab.resolveCircuits [99] = 0 :=
  ⟨callLaw_of_one _, callLaw_of_one _, callLaw_of_one _, by decide⟩

/-- A call that waits, since every circuit is held. -/
def waiting (c : CallKind) : Call := { call 1 c with state := .waiting }

theorem witness_ScanLeavesNoneThatCouldStart :
    (queued (call 1 .flick) up).callLaw ∧ (queued (call 1 .flick) up).al.stage.clearing = false ∧
    (let s : State := { allHeld with cu := { allHeld.cu with queue := [waiting (.chime 0)] } }
     s.al.stage.clearing = false ∧ waiting (.chime 0) ∈ s.scan.cu.queue ∧ (waiting (.chime 0)).state = .waiting) :=
  ⟨callLaw_of_one _, by decide, by decide⟩

/-- A flick call in its return after a dip. -/
def returningFlick : Call := { call 7 .flick with state := .playing, playback := .back 50 }

theorem witness_CallUnitTakesNotices :
    (let s : State := { queued (waiting (.chime 0)) up with clock := 6000 }
     s.inReset = false ∧ s.cu.find 1 = some (waiting (.chime 0)) ∧ reached s.clock (0 + 6000#32) = true ∧
      (after (.callStale 1) s).cu.queue = []) ∧
    (let s : State := { queued (waiting (.chime 0)) up with clock := 5999 }
     reached s.clock (0 + 6000#32) = false) ∧
    (up.al.stage.clearing = false ∧ (inStage .evacuate up).al.stage.clearing = true ∧
      (after .stageChangeNotice (inStage .evacuate (flicking returningFlick))).cu.queue = []) ∧
    up.cu.circuits[(0 : Fin 16)].holder = none := by decide

theorem witness_EvacuationMessageTakesAll :
    up.inReset = false ∧ up.cu.evacuation = none ∧ (paging 0).cu.heldBy .page ≠ 0 ∧
    (let t := after (.evacuationMessageStart 3) (paging 0)
     t.cu.evacuation.isSome = true ∧ t.cu.page = none ∧ t.cu.circuits[(15 : Fin 16)].holder = some .evacuation ∧
      (after .evacuationMessageStop t).cu.evacuation = none) := by decide

/-- The staff call of zone 1, with its repeat due. -/
def staffed (due : Clock) (playing : Bool) : State :=
  { up with cu := { up.cu with
      staff := some { zone := 1, message := some 2, repeatDue := some due, again := false }
      channels := up.cu.channels.set 1 { holder := some .staffCall, trigger := playing, number := 2, limit := none } } }

theorem witness_StaffCallPlays :
    (up.inReset = false ∧ up.tab.staffCircuits 1 ≠ 0 ∧ up.tab.staffCircuits 99 = 0 ∧ up.cu.staff = none ∧
      (up.tab.staffCircuits 1).getLsbD 0 = true ∧ up.cu.circuits[(0 : Fin 16)].holder ≠ some .evacuation ∧
      (after (.staffCallStart 1 (some 2)) up).cu.channels[(1 : Fin 2)].number = 2) ∧
    ((staffed 0 true).cu.staff.isSome = true ∧ reached (staffed 0 true).clock 0 = true ∧
      (staffed 0 true).cu.channels[(1 : Fin 2)].trigger = true ∧ (staffed 0 false).cu.channels[(1 : Fin 2)].trigger = false ∧
      reached (staffed 1 true).clock 1 = false ∧
      (after .staffRepeatDue (staffed 0 false)).cu.channels[(1 : Fin 2)].trigger = true) := by decide

/-- A message call that plays on channel 0, with its repeats. -/
def sounding (repeats : Nat) : Call :=
  { call 7 (.message 3) with state := .playing, source := some 0, granted := 1, repeats, playback := .message }
def messagePlays (repeats : Nat) : State := onChannel (.call 7) (some 0) (queued (sounding repeats) up)

theorem witness_PlaysEndAndRepeat_messages :
    (up.inReset = false ∧ up.cu.channels[(0 : Fin 2)].trigger = false) ∧
    ((messagePlays 2).cu.channels[(0 : Fin 2)].trigger = true ∧ (messagePlays 2).cu.find 7 = some (sounding 2) ∧
      (messagePlays 2).cu.channels[(0 : Fin 2)].holder = some (.call 7) ∧ (sounding 2).done + 1 < (sounding 2).repeats ∧
      (messagePlays 2).cu.channels[(0 : Fin 2)].limit = some 0 ∧ reached (messagePlays 2).clock 0 = true) ∧
    ((sounding 1).repeats ≤ (sounding 1).done + 1 ∧
      (after (.messageEndSignal 0) (messagePlays 1)).cu.queue = [] ∧
      (after (.playLimit 0) (messagePlays 2)).cu.queue = []) ∧
    ((onChannel .evacuation (some 0) up).cu.channels[(0 : Fin 2)].holder = some .evacuation ∧
      (onChannel .evacuation (some 1) up).cu.channels[(0 : Fin 2)].limit = some 1 ∧ reached up.clock 1 = false) ∧
    (let x : StaffCall := { zone := 1, message := some 2, repeatDue := none, again := true }
     let s : State := { staffed 0 true with cu := { (staffed 0 true).cu with staff := some x } }
     s.cu.channels[(1 : Fin 2)].holder = some .staffCall ∧ s.cu.channels[(1 : Fin 2)].trigger = true ∧
      s.cu.staff = some x ∧ x.again = true) := by decide

/-- A chime call on generator 0, in a note or in the silence between plays. -/
def aNote : Note := { divisor := 1000, duration := 10 }
def chiming (p : Playback) (repeats : Nat) : Call :=
  { call 7 (.chime 0) with state := .playing, source := some 0, repeats, pattern := [aNote], playback := p }

theorem witness_PlaysEndAndRepeat_chimes :
    (let c := chiming (.note [] 0) 2
     let s := onGenerator c up
     s.inReset = false ∧ s.cu.generators[(0 : Fin 2)].holder = some c.id ∧ s.cu.find c.id = some c ∧
      c.playback = .note [] 0 ∧ reached s.clock 0 = true ∧ c.done + 1 < c.repeats) ∧
    (let c := chiming (.note [aNote] 1) 1
     c.playback = .note [aNote] 1 ∧ reached (onGenerator c up).clock 1 = false ∧ c.repeats ≤ c.done + 1) ∧
    (let c := chiming (.note [] 0) 1
     (after (.chimeNoteEnd 0) (onGenerator c up)).cu.queue = []) ∧
    (let c := chiming (.gap 0) 2
     (onGenerator c up).cu.find c.id = some c ∧ c.playback = .gap 0 ∧ c.pattern = aNote :: [] ∧
      (after (.chimeRepeatGapEnd 0) (onGenerator c up)).cu.generators[(0 : Fin 2)].note = some aNote) ∧
    (let c : Call := { sounding 2 with playback := .gap 0 }
     let s := onChannel (.call 7) none (queued c up)
     s.cu.channels[(0 : Fin 2)].holder = some (.call c.id) ∧ s.cu.find c.id = some c ∧ c.playback = .gap 0 ∧
      c.kind = .message 3) := by decide

theorem witness_FlicksDipAndReturn :
    (let s : State := { flicking dipping with clock := 50 }
     s.inReset = false ∧ s.cu.find 7 = some dipping ∧ dipping.playback = .dip 50 ∧ reached s.clock 50 = true ∧
      s.al.stage.clearing = false ∧ (after (.flickDipEnd 7) s).cu.queue.map Call.playback = [.back 100] ∧
      (inStage .evacuate s).al.stage.clearing = true ∧ (after (.flickDipEnd 7) (inStage .evacuate s)).cu.queue = []) ∧
    reached (flicking dipping).clock 50 = false ∧
    (let c : Call := { returningFlick with repeats := 2 }
     let s : State := { flicking c with clock := 50 }
     s.cu.find 7 = some c ∧ c.playback = .back 50 ∧ c.done + 1 < c.repeats ∧
      (after (.flickRepeatEnd 7) s).cu.queue.map Call.playback = [.dip 100]) ∧
    returningFlick.repeats ≤ returningFlick.done + 1 := by decide

/-- Tables with no house entry but the curtain, and no local entry. -/
def tiny : Tables :=
  { Tables.default with
    limit := 2
    house := Vector.ofFn fun i => if i.val = 1 then defaultEntry (.curtain defaultCurtain) else blankEntry .zone }

/-- A state of the load, with or without a memory. -/
def loading (img : Bool) (due : Option Clock) : State :=
  { up with im := { Maint.reset with img, loadDue := due } }

/-- What a read gives, as a reason; none when it gives an image. -/
def reasonOf : Loaded → Option DefaultReason
  | .valid _ => none
  | .default r => some r

set_option maxRecDepth 100000 in
theorem tiny_image_is_valid :
    reasonOf (loadImage (some (encodeImage tiny))) = none ∧ tiny.commitFault = none ∧
    (encodeImage tiny).length ≤ 65536 := by decide +kernel

set_option maxRecDepth 4000 in
theorem tiny_law : tiny.law := by
  unfold Tables.law Entry.sound
  decide

theorem witness_ImageLoadEnds :
    (up.inReset = false ∧ up.im.starting = false) ∧
    ((loading true (some 0)).inReset = false ∧ (loading true (some 0)).im.starting = true ∧
      (loading true (some 0)).im.img = true ∧ (loading true (some 0)).im.loadDue = some 0 ∧
      reached (loading true (some 0)).clock 0 = true ∧ reasonOf (loadImage (some (encodeImage tiny))) = none ∧
      loadImage none = .default .noResponse) ∧
    ((loading false none).im.starting = true ∧ (loading false none).im.img = false ∧
      (after (.imageLoadEnd none) (loading false none)).im.reason = some .absent) :=
  ⟨by decide, ⟨rfl, rfl, rfl, rfl, by decide, tiny_image_is_valid.1, by decide⟩, by decide⟩

theorem witness_ImageRoundTrip : tiny.law ∧ tiny.commitFault = none ∧ (encodeImage tiny).length ≤ 65536 :=
  ⟨tiny_law, tiny_image_is_valid.2⟩

/-- The work of a station, with its time limit. -/
def work (due : Clock) : Work := { station := 1, due, image := [1, 2] }

/-- The same state with tables as given. -/
def withTables (t : Tables) (s : State) : State := { s with tab := t }

/-- Tables with one LINE entry more than the house may hold. -/
def crowded : Tables := (withHouse 99 (.line { line := 0, kind := .detector, zone := 1, effectIsolatable := false }) up).tab

theorem witness_CommissioningCommits_requests :
    (up.ready ∧ up.admits 1 0 ∧ up.im.comm = .closed ∧ up.perf.phase = .dark ∧ up.al.stage = .quiet ∧
      up.cc.state.moving = false ∧ status (after (.commissionBegin h1) up) = some .ok) ∧
    (inComm .writing (some (work 1000)) up).im.busy = true ∧ (inPhase .prepare up).perf.phase ≠ .dark ∧
    (inStage .alert up).al.stage ≠ .quiet ∧ lowering.cc.state.moving = true ∧
    ((inComm .opened none up).ready ∧ (inComm .opened none up).im.comm = .opened ∧
      (inComm .opened none up).im.img = true ∧ status (after (.abort h1) (inComm .opened none up)) = some .ok) ∧
    (let s : State := { up with im := { up.im with comm := .opened } }
     s.im.comm = .opened ∧ s.im.img = false) := by
  simp only [State.ready, State.admits]; decide

theorem witness_CommissioningCommits_write :
    (tiny.commitFault = none ∧ (withTables tiny (inComm .opened none up)).tab = tiny) ∧
    crowded.commitFault = some (.count, 99) ∧
    (let s := inComm .writing (some (work 0)) up
     s.inReset = false ∧ s.im.comm = .writing ∧ s.im.work = some (work 0) ∧ [1#8] ≠ (work 0).image ∧
      reached s.clock (work 0).due = true ∧ (after (.commitWriteEnd (some [1, 2])) s).im.comm = .closed ∧
      (after (.commitWriteEnd (some [1])) s).im.comm = .opened) ∧
    up.im.comm ≠ .writing :=
  ⟨⟨tiny_image_is_valid.2.1, rfl⟩, by decide, by decide, by decide⟩

theorem witness_ReloadReplacesTables :
    (let s := inComm .reloading (some (work 0)) up
     s.inReset = false ∧ s.im.comm = .reloading ∧ s.im.work = some (work 0) ∧ s.im.img = true ∧
      reached s.clock (work 0).due = true ∧ (after .reloadTimeout s).im.comm = .closed) ∧
    (let s : State := { up with im := { up.im with comm := .reloading, work := some (work 0) } }
     s.im.img = false ∧ (after (.reloadEnd none) s).im.reason = some .absent) ∧
    reached up.clock (work 500).due = false ∧ loadImage none = .default .noResponse ∧
    reasonOf (loadImage (some (encodeImage tiny))) = none :=
  ⟨by decide, by decide, by decide, by decide, tiny_image_is_valid.1⟩

set_option maxRecDepth 4000 in
theorem witness_WritesChangeTables :
    (let s := inComm .opened none up
     s.ready ∧ s.admits 1 0 ∧ s.im.comm = .opened ∧ (1 : Fin 128).val < s.tab.limit ∧ (98 : Fin 128).val < s.tab.limit ∧
      getEntry false (halfBytes 0x0480 ++ [0, 1, 0]) =
        some (defaultEntry (.circuit { output := 0, staff := true, programme := false }), []) ∧
      getEntry true (halfBytes 0x0700 ++ []) = some (blankEntry .preset, []) ∧
      (getEntry false (halfBytes 0x0480 ++ [16, 1, 0])).isNone = true ∧
      status (after (.writeObject h1 0 98 0x0480 [0, 1, 0]) s) = some .ok ∧
      status (after (.writeObject h1 1 0x800F 0x0700 []) s) = some .ok ∧
      status (after (.writeStation h1 15 1 3) s) = some .ok ∧
      status (after (.writeParamsSection0 h1 128 10 60 1 8) s) = some .ok ∧
      status (after (.writeParamsSection0 h1 1 120 600 255 11) s) = some .ok ∧
      status (after (.writeParamsSection1 h1 7 [(1, 255)]) s) = some .ok) ∧
    15 < (16 : Byte).toNat ∧ 1 < (2 : Byte).toNat ∧ 3 < (4 : Byte).toNat ∧ 7 < (8 : Byte).toNat := by
  simp only [State.ready, State.admits]; decide

set_option maxRecDepth 4000 in
/-- R18 and R22: a write outside OPEN marks the entry that it names, and a station made not present loses its paired
record. -/
theorem witness_WritesChangeTables_frame :
    (up.ready ∧ up.admits 1 0 ∧ up.im.comm ≠ .opened ∧ (up.tab.house? 34).isSome = true ∧
      (let t := after (.writeObject h1 0 34 0x0480 [0, 1, 0]) up
       status t = some .eCommission ∧ t.tab.house[(34 : Fin 128)].used = true)) ∧
    (let s := inComm .writing (some { station := 1, due := 0, image := [] }) up
     s.im.comm ≠ .opened ∧ status (after (.writeStation h1 15 1 3) s) = some .eBusy) ∧
    (let p : Paired := { action := .alarm, expiry := 9 }
     let s : State := { inComm .opened none up with paired := (up.paired.set 14 (some p)).set 15 (some p) }
     let t := after (.writeStation h1 15 0 3) s
     t.paired[(15 : Station)] = none ∧ t.paired[(14 : Station)] = some p) := by
  simp only [State.ready, State.admits]; decide

theorem witness_GroupsAreInhibited :
    (up.ready ∧ up.admits 1 0 ∧ 3 < (4 : Byte).toNat ∧ up.im.busy = false ∧ up.perf.phase = .dark ∧
      up.im.inhibit.has .sounders = false) ∧
    (inPhase .prepare up).perf.phase ≠ .dark ∧ (driveInhibited up).im.inhibit.has .drive = true ∧
    (after (.inhibitGroup h1 0) lowering).cc.state = .parked ∧
    (after (.inhibitGroup h1 1) up).dimmerOn 0 = true ∧
    (after (.inhibitGroup h1 3) evacuated).al.sounders = false ∧
    (after (.clearInhibit h1 0) (driveInhibited up)).im.inhibit.drive = false := by
  simp only [State.ready, State.admits]; decide

/-! ## Further cases of the statements -/

/-- R40, R49 and R75: what a sample tells of a movement that ends, and the record of one that goes on. -/
theorem witness_CurtainSampleSupervises_record :
    (let m : Movement := { moving .testLower with elapsed := 5 }
     let s := sampling .lowering { m with record := { m.record with held := true } }
     (after (.curtainSample 24000 false true true) s).notices =
       [.movementNotice .testLower .complete true 6 300]) ∧
    (let m : Movement := { moving .testLower with allowance := 9, underCount := 2 }
     (after (.curtainSample 1 false false true) (sampling .lowering m)).notices =
       [.movementNotice .testLower .fault false 1 300]) ∧
    (let row := fun (k : MoveKind) (c : CurtainState) (was pos : Nat) =>
       (after (.curtainSample (BitVec.ofNat 16 pos) false false true)
         (sampling c { moving k with previous := some was })).cc.move.map fun n =>
           (n.record.fastMax, n.record.slowMax, n.record.slowEntry)
     row .testLower .lowering 19900 19999 = some (99, 0, none) ∧
      row .testLower .lowering 19900 20000 = some (0, 100, some 1) ∧
      row .raise .raising 100 71 = some (29, 0, none)) := by decide

set_option maxRecDepth 4000 in
/-- R62 and R63: the answer to a MANUAL_DROP, and what it opens and tells. -/
theorem witness_GatesAct_drop_answers :
    (let t := after (.useGate h1 99) (gated .manualDrop 0 none (curtain .inn none none up))
     status t = some .ok ∧ data t = [2]) ∧
    (let t := after (.useGate h1 99) (gated .manualDrop 0 none (driveInhibited up))
     status t = some .wPartial ∧ data t = [3] ∧ t.cc.log.map MoveRec.kind = [.manual] ∧
      t.notices = [.fireLockNotice true, .movementNotice .manual .blocked false 0 300]) ∧
    (let t := after (.useGate h1 99) (gated .manualDrop 0 none falling)
     status t = some .ok ∧ data t = [1] ∧ t.notices = []) ∧
    (let t := after (.useGate h1 99) (gated .manualDrop 0 none lowering)
     status t = some .ok ∧ data t = [0] ∧ t.cc.move.map (fun m => m.record.kind) = some .manual ∧
      t.notices = [.fireLockNotice true, .movementNotice .testLower .aborted false 0 300]) := by decide

set_option maxRecDepth 4000 in
/-- R20: each way in which the zone of a MANUAL_CALL fails its check. -/
theorem witness_GatesAct_call_refused :
    let use := fun (target : Level) (zone limit : Nat) =>
      let s := gated .manualCall target (some zone) up
      data (after (.useGate h1 99) { s with tab := { s.tab with limit } })
    use 0 0 128 = [2, 0, 0, 1, 1, 0] ∧ use 0 120 120 = [3, 0, 120, 1, 1, 0] ∧ use 0 120 121 = [4, 0, 120, 1, 1, 0] ∧
    use 0 2 128 = [5, 0, 2, 1, 1, 0] ∧ use 1 1 128 = [6, 0, 1, 1, 1, 0] ∧ use 0 1 128 = [1, 1] := by decide

/-- R27: the acknowledge due moves, and the time at which the stage was entered does not. -/
theorem witness_SetClockMovesDueTimes_alarm :
    (after (.setClock h1 7) (alerted 3)).al.ackDue = some 10 ∧ (alerted 3).perf.phase = .dark ∧
    (after (.setClock h1 7) (alerted 3)).al.enteredAt = (alerted 3).al.enteredAt := by decide

/-- R206: what refuses a RESTART after its enable, in the order of the tests. -/
theorem witness_PairedRequestsAreEnabled_refused :
    let s := enabled .restart 1 up
    let reply := fun u : State => status (after (.restart h1) u)
    reply (inComm .writing none s) = some .eBusy ∧ reply (inPhase .prepare s) = some .ePhase ∧
    reply (inStage .alert s) = some .eStage ∧ reply (enabled .restart 1 lowering) = some .eMotion ∧
    reply { s with clock := 2 } = some .eSequence ∧ reached 2 1 = true ∧ reply (atLevel 1 s) = some .eAccess := by decide

/-- R22: an enable that has expired. -/
theorem witness_AlarmResetReturnsToQuiet_expired :
    let s : State := { enabled .alarm 1 evacuated with clock := 2 }
    s.paired[(1 : Station)] = some { action := .alarm, expiry := 1 } ∧ reached s.clock 1 = true ∧ s.clock ≠ 1 ∧
    status (after (.alarmReset h1) s) = some .eSequence := by decide

/-- R33: what refuses a BEGIN_INTERVAL that names no script. -/
theorem witness_IntervalBeginsAndExtends_refused :
    let reply := fun s : State => status (after (.beginInterval h1 1 0) s)
    let inAct := fun n => ({ up with perf := { Performance.cleared .act with interval := n } } : State)
    reply up = some .ePhase ∧ reply (inStage .alert (inAct 0)) = some .eStage ∧ reply (inAct 8) = some .eFull ∧
    reply (inAct 7) = some .ok := by decide

/-- R53: a RAISE from HELD closes the held record. -/
theorem witness_LowerAndRaiseStart_held :
    let s := permitted held
    let t := after (.raise h1 98) s
    s.cc.state = .held ∧ s.cc.move = some (moving .testLower) ∧ t.cc.state = .raising ∧
    t.cc.log.map MoveRec.outcome = [some .aborted] ∧
    t.notices = [.movementNotice .testLower .aborted false 0 300] ∧
    (after (.raise h1 98) { s with cc := { s.cc with top := true } }).notices =
      [.movementNotice .testLower .aborted false 0 300, .movementNotice .raise .complete false 0 300] := by decide

/-- R56: what refuses a RESUME in HELD, in the order of the tests. -/
theorem witness_HoldAndResume_refused :
    let reply := fun s : State => status (after (.resume h1 98) s)
    reply { held with cc := { held.cc with settingClear := false } } = some .eMotion ∧
    reply (inStage .alert heldRaise) = some .eStage ∧ reply (locked heldRaise) = some .eLocked ∧
    reply (locked (inStage .alert held)) = some .ok ∧
    reply { heldRaise with cc := { heldRaise.cc with settingClear := false } } = some .ok ∧
    reply { held with cc := { held.cc with driveReady := false } } = some .eMotion ∧
    reply (driveInhibited held) = some .eInhibit := by decide

/-- R202 and R205: what refuses both requests before their own tests. -/
theorem witness_GroupsAreInhibited_refused :
    let s := inComm .writing none up
    s.im.busy = true ∧ (inComm .opened none up).im.busy = false ∧
    ∀ i ∈ [Instr.inhibitGroup h1 3, .clearInhibit h1 0],
      status (after i s) = some .eBusy ∧ status (after i (atLevel 1 s)) = some .eAccess := by decide

/-- R136 and R145: a snap to EMERGENCY changes the selected level and its reload value alone. -/
theorem witness_SourcesAreSelected_snap :
    let dim : Channel := { primary := 100, fade := some lastTick, selected := 100, reload := 25, high := 25 }
    let s : State := { up with le := { up.le with channels := up.le.channels.set 0 dim } }
    (after (.evacNotice true) s).le.channels[(0 : Fin 48)] = { dim with selected := 4095, reload := 1024 } ∧
    (after .ackTimeout { alerted 0 with le := s.le }).le.channels[(0 : Fin 48)] =
      { dim with selected := 4095, reload := 1024 } := by decide

theorem witness_ProtectionsAreLeftByRequest :
    (falling.cc.lock = some .manual ∧ Instr.fadeTick.wellFormed = true ∧
      exec .fadeTick falling = .next (after .fadeTick falling)) ∧
    (evacuated.al.stage = .evacuate ∧ (after (.silence h1) evacuated).al.stage = .silenced) ∧
    ((Instr.alarmReset h1).wellFormed = true ∧
      exec (.alarmReset h1) (enabled .alarm 1 evacuated) = .next (after (.alarmReset h1) (enabled .alarm 1 evacuated)) ∧
      (after (.alarmReset h1) (enabled .alarm 1 evacuated)).al.stage = .quiet) ∧
    (after (.prepare h1) up).perf.phase = .prepare :=
  ⟨⟨by decide, by decide, rfl⟩, by decide, ⟨by decide, rfl, by decide⟩, by decide⟩

theorem witness_StepKeepsCurtainLaws :
    (heldRaise.curtainLaw ∧ step heldRaise = .next (stepped heldRaise)) ∧
    ((permitted raising).raiseLaw ∧ step (permitted raising) = .next (stepped (permitted raising))) :=
  ⟨⟨by simp only [State.curtainLaw]; decide, rfl⟩, ⟨by simp only [State.raiseLaw]; decide, rfl⟩⟩

/-- A house in EVACUATE for line 4. -/
def fire : State := lineAt .alarm .alarm 4 evacuated

theorem witness_StepKeepsAlarmLaws :
    (fire.stageLaw ∧ step fire = .next (stepped fire)) ∧ fire.listLaw := by
  refine ⟨⟨by simp only [State.stageLaw]; decide, rfl⟩, by decide, by decide, ?_, by decide, by decide⟩
  intro e h k hk
  have : e = anEntry := by simpa [fire, lineAt, evacuated] using h
  subst this
  have : 4 = k := by simpa [anEntry] using hk
  omega

theorem witness_StepKeepsRecordLaws :
    ((interval 100 up).performanceLaw ∧ step (interval 100 up) = .next (stepped (interval 100 up))) ∧
    (supervised true false (some 50)).supervisionLaw ∧
    ((supervised true false (some 50)).os.sup.locked = true ∧
      step (supervised true false (some 50)) = .next (stepped (supervised true false (some 50)))) ∧
    (withLink { up.dl with buffer := List.replicate 8 errorItem, overflow := 255 }).linkLaw := by
  refine ⟨⟨by simp only [State.performanceLaw]; decide, rfl⟩, ?_, ⟨by decide, rfl⟩, ?_⟩
  · simp only [State.supervisionLaw]; decide
  · simp only [State.linkLaw]; decide

theorem witness_StepKeepsTableLaws :
    (withTables tiny fading).tab.law ∧ step (withTables tiny fading) = .next (stepped (withTables tiny fading)) :=
  ⟨tiny_law, rfl⟩

theorem witness_StepKeepsTableLaws_lighting : (withTables tiny fading).lightingLaw := by
  unfold State.lightingLaw; decide

theorem witness_StepKeepsCallLaws :
    dueChime.callLaw ∧ dueChime.evacuationLaw ∧ step dueChime = .next (stepped dueChime) ∧
    dueChime.queueLaw ∧ ∀ c ∈ dueChime.cu.queue, dueChime.clock - c.due ≠ 0x7FFFFFFF#32 :=
  ⟨callLaw_of_one _, fun h => absurd h (by decide), rfl, List.pairwise_singleton _ _, by decide⟩

/-- A house right after an alarm, with its notices waiting and the first of them at the front of the queue. -/
def alarmed : State :=
  let t := after (.lineSample 4 199) (lineAt .alarm .normal 3 up)
  { t with pending := t.notices.take 1 }

theorem witness_StepKeepsRecordLaws_evacuation :
    alarmed.noticeInTurn ∧ alarmed.fireLockLaw ∧ alarmed.eventLaw ∧ alarmed.circuitLaw ∧
    alarmed.al.stage.clearing = true ∧ alarmed.al.stage = .evacuate ∧ alarmed.listTriggers = true ∧
    Instr.tableChangeNotice ∉ alarmed.notices ∧ step alarmed = .next (stepped alarmed) := by
  refine ⟨?_, ?_, ?_, ?_, by decide, by decide, by decide, by decide, rfl⟩
  · intro i rest h _
    have h1 : alarmed.pending = alarmed.notices.take 1 := rfl
    rw [h1] at h
    cases hn : alarmed.notices with
    | nil => simp [hn] at h
    | cons j l => simp_all
  · have h : (alarmed.lastNotice fun i => decide (i = .fireTrigger) || decide (i = .alarmQuiet)) =
        some .fireTrigger := by decide
    exact fun _ _ => by rw [h]
  · have h : (alarmed.lastNotice fun i =>
        decide (i = .fireLockNotice true) || decide (i = .fireLockNotice false)) = none := by decide
    exact ⟨fun _ => by decide, fun _ => by decide, by decide, by rw [h]; decide⟩
  · have h : alarmed.lastNotice isMessageNotice = some (.evacuationMessageStart 1) := by decide
    exact fun _ => by rw [h]; decide

set_option maxRecDepth 4000 in
theorem witness_StepKeepsRecordLaws_sources : alarmed.sourceLaw := by
  have h : ∀ n : Fin 48,
      (alarmed.os.selections[n].source = .emergency → alarmed.os.selections[n].transition = none) ∧
      alarmed.os.selections[n].source = alarmed.os.sourceOf n (alarmed.tab.governing n) ∧
      ∀ b ∈ alarmed.tab.governing n, alarmed.os.selections[n].source = .emergency →
        alarmed.le.channels[n].selected = b.emergency := by decide
  exact fun n => ⟨(h n).1, fun _ => ⟨(h n).2.1, fun b hb => (h n).2.2 b hb⟩⟩

/-! ## The reports and other late clauses of the statements -/

/-- The reports that the second of two states has more than the first. -/
def told (s t : State) : List Report := (t.dl.reports.drop s.dl.reports.length).map Queued.report

/-- R192: the optional fields, the supervision and the inhibits of the snapshot. -/
theorem witness_StatusAndDescribeReply_fields :
    (let s : State := { supervised true false (some 50) with
       perf := (interval 258 up).perf, cc := falling.cc, al := { up.al with knockEnd := some 259 }
       im := { up.im with inhibit := { drive := true, lighting := false, audio := false, sounders := true } } }
     let d := data (after (.status h1) s)
     sliceOf d 7 5 = [1, 0, 0, 1, 2] ∧ sliceOf d 14 5 = [1, 0, 0, 1, 3] ∧ sliceOf d 22 2 = [0, 0] ∧
      sliceOf d 24 3 = [1, 1, 1] ∧ sliceOf d 27 6 = [0, 0, 0, 0, 0, 0] ∧ sliceOf d 33 2 = [1, 2] ∧
      sliceOf d 35 3 = [1, 1, 5] ∧ sliceOf d 38 2 = [1, 1] ∧ sliceOf d 40 5 = [1, 0, 0, 0, 50] ∧
      sliceOf d 45 2 = [0, 9]) ∧
    sliceOf (data (after (.status h1) (faulted true true))) 22 2 = [1, 0] ∧
    sliceOf (data (after (.status h1) (permitted up))) 27 6 = [1, 1, 0, 0, 11, 184] := by decide

/-- R13 to R15: the selector of a WRITE_OBJECT: NULL, LIMIT at each table's end, a reserved bit, and any RPL. -/
theorem witness_WritesChangeTables_selector :
    let s := inComm .opened none (atLevel 0 up)
    let w := fun (target : Byte) (object : Half) => after (.writeObject h1 target object 0x0480 [0, 1, 0]) s
    data (w 0 0x0300) = [2, 0, 0, 0, 0, 0] ∧ s.tab.limit ≤ 127 ∧
    data (w 0 (BitVec.ofNat 16 s.tab.limit)) = [3, 0, BitVec.ofNat 8 s.tab.limit, 0, 0, 0] ∧
    data (w 0 0x03FF) = [3, 0, 255, 0, 0, 0] ∧ data (w 1 0x8310) = [3, 1, 16, 0, 0, 0] ∧
    status (w 0 0x0462) = some .eParam ∧ status (w 0 0x4000) = some .eParam ∧ status (w 0 0x0362) = some .ok := by decide

set_option maxRecDepth 4000 in
/-- R89, R91 and R116: what a line takes from the loss of its last entry, and a curtain trigger that is gained. -/
theorem witness_WritesChangeTables_lines :
    let least : Instr := .writeParamsSection0 h1 1 10 60 1 8
    (let s := lineAt .opened .opened 4 (inComm .opened none up)
     let t := after least s
     told s t = [.line { line := 4, entry := 0, zone := 0, previous := .opened, state := .normal
                         cause := .entryRemoved, last := none }] ∧
      t.al.lines[(4 : Fin 32)].state = .normal ∧ t.al.lines[(4 : Fin 32)].run = 0) ∧
    (let s := lineAt .alarm .alarm 4 (inComm .opened none up)
     told s (after least s) = [] ∧ (after least s).al.lines[(4 : Fin 32)].state = .alarm) ∧
    (let s := isolated timed (inComm .opened none up)
     (after least s).al.lines[(4 : Fin 32)] = s.al.lines[(4 : Fin 32)]) ∧
    (let s := withTables tiny (inComm .reloading (some (work 0)) evacuated)
     (after .reloadTimeout s).notices = [.fireTrigger, .tableChangeNotice]) := by decide

/-- R203: a valid image leaves the stored cycle length of the live parameters; the defaults bring their own. -/
theorem witness_ReloadReplacesTables_cycle :
    ((Loaded.valid tiny).tables 11).params.cycle = 11 ∧ tiny.params.cycle = 10 ∧
    ((Loaded.default .crc).tables 11).params.cycle = 10 := by decide

/-- R49, R68 and R205: the reports of an inhibit of the drive in a lowering, and at rest; the lines held on. -/
theorem witness_GroupsAreInhibited_reports :
    let drive : Inhibits := { drive := true, lighting := false, audio := false, sounders := false }
    told lowering (after (.inhibitGroup h1 0) lowering) =
      [.inhibit .drive true 1 drive,
       .movement { (moving .testLower).record with stop := some 0, outcome := some .aborted },
       .curtain { previous := .lowering, state := .parked, cause := .inhibit, record := none, position := 0
                  lock := none, permit := none, reason := none }] ∧
    told up (after (.inhibitGroup h1 0) up) = [.inhibit .drive true 1 drive] ∧
    (let s : State := { up with le := { up.le with forced := false } }
     let t := after (.inhibitGroup h1 1) s
     t.le.forced = true ∧ (after (.clearInhibit h1 1) { t with dl := up.dl }).dimmerOn 0 = true ∧
      (after .cycleStart (after (.clearInhibit h1 1) { t with dl := up.dl })).le.forced = false) := by decide

/-- R66 and R68: the return to QUIET during a fire-class lowering, without and with a fault flag. -/
theorem witness_FireClassMovements_quiet :
    (let t := after .alarmQuiet falling
     told falling t = [.movement { (moving .fire).record with stop := some 0, outcome := some .aborted },
       .curtain { previous := .lowering, state := .parked, cause := .alarmQuiet, record := none, position := 0
                  lock := none, permit := none, reason := none }] ∧
      t.notices = [.movementNotice .fire .aborted false 0 300, .fireLockNotice false]) ∧
    (let m : Movement := moving .fire
     let s := curtain .lowering (some { m with record := { m.record with faults := [.dashpot] } }) none up
     (after .alarmQuiet s).cc.log.map MoveRec.outcome = [some .fault] ∧
      (after .alarmQuiet s).notices = [.movementNotice .fire .fault false 0 300]) := by decide

/-- R107 and R91: the LINE report stands before the STAGE report. -/
theorem witness_LineSampleDebounces_reports :
    let s := lineAt .alarm .normal 3 up
    told s (after (.lineSample 4 199) s) =
      [.line { line := 4, entry := 6, zone := 1, previous := .normal, state := .alarm, cause := .classTaken
               last := some 199 },
       .stage { previous := .quiet, stage := .evacuate, cause := .firstEntry, station := 0
                entry := some (1, .line 4), gate := none, count := 1
                first := some { origin := .line 4, zone := 1, time := 0, staged := false }, due := none
                knockEnd := none, sounders := true, fireSent := true }] := by decide

set_option maxRecDepth 4000 in
/-- R96 and R178: the reports of a CLOSE_HOUSE, in their order. -/
theorem witness_ActAndCloseCancelScripts_reports :
    let c : Call := { call 2 (.chime 0) with origin := .script 1 }
    let s := isolated timed (inPhase .act (queued c up))
    (s.cu.queue.map Call.id).Nodup ∧ c.unstartedScript = true ∧
    told s (after (.closeHouse h1) s) =
      [s.cu.ended c .cancelled (some .closeHouse),
       .isolation { line := 4, entry := 6, isolation := timed, cause := .closeHouse },
       .line { line := 4, entry := 6, zone := 1, previous := .isolated, state := .normal, cause := .closeHouse
               last := none },
       .phase .act .showDown (.request 0x16) 1 0 0 none] := by decide

/-- R155: the DESK reports, and the paired records that a request and the deadline leave. -/
theorem witness_DeskIsSupervised_reports :
    (let s := enabled .alarm 9 (supervised false true none)
     let t := after (.keepalive h1) s
     told s t = [.desk { event := .restored, station := 1, sup := t.os.sup, deskLoss := false }] ∧
      t.paired[(1 : Station)] = none) ∧
    (let s := enabled .alarm 9 (supervised false false (some 0))
     let t := after .deskDeadline s
     told s t = [.desk { event := .lost, station := 0, sup := t.os.sup, deskLoss := true }] ∧ t.paired = s.paired) ∧
    (let s := supervised true false (some 50)
     told s (after (.supervise h1 5 1) s) = []) := by decide

/-- A message call that holds channel 1 and circuit 0. -/
def onCircuitZero : State :=
  { up with cu := { up.cu with
      queue := [{ sounding 1 with source := some 1 }]
      circuits := up.cu.circuits.set 0 { holder := some (.call 7), programme := false }
      channels := up.cu.channels.set 1 { holder := some (.call 7), trigger := true, number := 3, limit := none } } }

/-- R158, R171, R173 and R175: what a page, a staff call and the evacuation message take, with the reports. -/
theorem witness_PageOpensAndCloses_losses :
    (onCircuitZero.cu.queue.map Call.id).Nodup ∧
    (onCircuitZero.cu.losses onCircuitZero.cu.queue 1).length = 1 ∧
    (let t := after (.pageOpen h1 [1]) onCircuitZero
     (told onCircuitZero t).length = 2 ∧ (told onCircuitZero t).head? =
       some (onCircuitZero.cu.ended { sounding 1 with source := some 1, granted := 0, missed := 1 } .abandoned
         (some .preempted)) ∧
      t.cu.circuits[(0 : Fin 16)].holder = some .page) ∧
    (let other : State := { allHeld with cu := { allHeld.cu with
       circuits := allHeld.cu.circuits.set 1 { holder := none, programme := false } } }
     let t := after (.pageOpen h1 [1]) other
     t.cu.circuits[(1 : Fin 16)].holder = some .page ∧ t.cu.circuits[(0 : Fin 16)].holder = some .evacuation) := by
  decide

set_option maxRecDepth 4000 in
/-- R158, R160, R171 and R175: a staff call and the evacuation message take a source, circuits and the page's. -/
theorem witness_StaffCallPlays_losses :
    let s : State := { onCircuitZero with cu := { onCircuitZero.cu with
      page := (paging 0).cu.page
      circuits := onCircuitZero.cu.circuits.set 1 { holder := some .page, programme := false } } }
    told s (after (.staffCallStart 1 (some 2)) s) =
      s.cu.ended { sounding 1 with source := some 1 } .abandoned (some .preempted) ::
        s.cu.pageLoss (BitVec.allOnes 16) ∧
    (s.cu.pageLoss (BitVec.allOnes 16)).length = 1 ∧
    (told s (after (.evacuationMessageStart 3) s)).length = 2 := by decide

/-- R173: the STARTED report of each kind, and that of a call with no circuit to reach. -/
theorem witness_DueCallStarts_reports :
    (let t := after (.callDue 1) dueFlick
     told dueFlick t = [.call { subject := .call { call 1 .flick with state := .playing } (t.cu.owned 1).length
                                event := .started, reason := none, granted := 0, missed := 0, lost := 0 }]) ∧
    (let s := withHouse 99 emptyZone (queued { call 1 (.chime 0) with zones := [99] } up)
     told s (after (.callDue 1) s) =
       [s.cu.ended { call 1 (.chime 0) with zones := [99], state := .waiting } .abandoned (some .noCircuits)]) := by
  decide

/-- R118: states that meet the law of the sounders. -/
theorem witness_ProtectionsAreLeftByRequest_sounders :
    evacuated.sounderLaw ∧ up.sounderLaw ∧ (after (.inhibitGroup h1 3) evacuated).sounderLaw := by
  simp only [State.sounderLaw]; decide

end Sys2Proof.Tests
end

section
/-! SUPPORT. The protections as a small machine of their own: the alarm stage, the sounders with their inhibit, the
cause of the fire lock and the phase. Every operation of the blocks keeps them or makes one of their steps. -/

namespace Sys2Proof.Machine

/-! ### The protections and their steps -/

/-- R28, R60, R104, R118: what the statement on the protections is about. -/
structure Guard where
  stage : Stage
  sounders : Bool
  inhibited : Bool
  lock : Option LockCause
  phase : Phase

/-- The protections of the machine as they stand. -/
def State.guard (s : State) : Guard :=
  { stage := s.al.stage, sounders := s.al.sounders, inhibited := s.im.inhibit.sounders, lock := s.cc.lock,
    phase := s.perf.phase }

namespace Guard

/-- R118: the sounders are on while the stage is EVACUATE and their group is not inhibited. -/
def law (g : Guard) : Prop := g.sounders = true ↔ g.stage = .evacuate ∧ g.inhibited = false

/-- R104 and R118: a stage is entered, and the sounders follow. -/
def enter (g : Guard) (new : Stage) : Guard :=
  { g with stage := new, sounders := decide (new = .evacuate) && !g.inhibited }

/-- R118 and R205: the sounder inhibit is set or cleared, and the sounders follow. -/
def inhibit (g : Guard) (on : Bool) : Guard :=
  { g with inhibited := on, sounders := decide (g.stage = .evacuate) && !on }

/-- R60: the fire lock is set; a cause that stands is kept. -/
def setLock (g : Guard) (c : LockCause) : Guard := { g with lock := some (g.lock.getD c) }

/-- R60: the fire lock is cleared. -/
def dropLock (g : Guard) : Guard := { g with lock := none }

/-- R107: a STAGE report shows the stage and the sounders of these protections. -/
def shownBy (g : Guard) (r : StageReport) : Prop := r.stage = g.stage ∧ r.sounders = g.sounders

end Guard

/-- R106 to R120: the arrows of the stages, and the request that an arrow out of EVACUATE or into QUIET needs. -/
inductive StageArrow (i : Instr) : Stage → Stage → Prop
  | evacuate (a : Stage) : StageArrow i a .evacuate
  | alert : StageArrow i .quiet .alert
  | investigate : StageArrow i .alert .investigate
  | silence (h : Hdr) (hi : i = .silence h) : StageArrow i .evacuate .silenced
  | reset (h : Hdr) (hi : i = .alarmReset h) (a : Stage) : StageArrow i a .quiet

/-- R28: the arrows of the phases, each with its request and the stage that it needs. -/
inductive PhaseArrow (i : Instr) (x : Stage) : Phase → Phase → Prop
  | prepare (h : Hdr) (hi : i = .prepare h) : PhaseArrow i x .dark .prepare
  | openHouse (h : Hdr) (hi : i = .openHouse h) (hx : x = .quiet) : PhaseArrow i x .prepare .houseOpen
  | beginAct (h : Hdr) (hi : i = .beginAct h) (hx : x = .quiet) (p : Phase) (hp : p = .houseOpen ∨ p = .interval) :
    PhaseArrow i x p .act
  | beginInterval (h : Hdr) (m : Byte) (a : Half) (hi : i = .beginInterval h m a) (hx : x = .quiet) :
    PhaseArrow i x .act .interval
  | closeHouse (h : Hdr) (hi : i = .closeHouse h) (p : Phase) (hp : p = .houseOpen ∨ p = .act ∨ p = .interval) :
    PhaseArrow i x p .showDown
  | goDark (h : Hdr) (hi : i = .goDark h) (hx : x = .quiet) (p : Phase) (hp : p = .showDown ∨ p = .prepare) :
    PhaseArrow i x p .dark

/-- What the command `i` may do with the protections. -/
inductive Guard.Step (i : Instr) (g : Guard) : Guard → Prop
  | keep : Guard.Step i g g
  | stage (new : Stage) (ha : StageArrow i g.stage new) : Guard.Step i g (g.enter new)
  | inhibit (on : Bool) : Guard.Step i g (g.inhibit on)
  | lock (c : LockCause) : Guard.Step i g (g.setLock c)
  | release (h : Hdr) (hi : i = .releaseLock h) : Guard.Step i g g.dropLock
  | phase (new : Phase) (ha : PhaseArrow i g.stage g.phase new) : Guard.Step i g { g with phase := new }

/-- From `s` to `t`, where the protections are `g`, every STAGE report that was added shows `f`. -/
structure State.leadsTo (s : State) (f g : Guard) (t : State) : Prop where
  guard : t.guard = g
  told : ∀ q ∈ t.dl.reports, q ∉ s.dl.reports → ∀ r, q.report = .stage r → f.shownBy r

/-- From `s` to `t` the protections make a step of the command `i`, and every STAGE report that was added shows them as
they stand after it. -/
structure State.effect (s : State) (i : Instr) (t : State) : Prop where
  step : Guard.Step i s.guard t.guard
  told : ∀ q ∈ t.dl.reports, q ∉ s.dl.reports → ∀ r, q.report = .stage r → t.guard.shownBy r

section
variable {s t u : State} {f g : Guard} {i : Instr}

theorem sounderLaw_iff (s : State) : s.sounderLaw ↔ s.guard.law := Iff.rfl

theorem State.leadsTo_self (s : State) : s.leadsTo f s.guard s := ⟨rfl, fun _ hq hn => absurd hq hn⟩

theorem State.effect.of (hs : Guard.Step i s.guard g) (ht : s.leadsTo g g t) : s.effect i t := by
  obtain ⟨rfl, told⟩ := ht
  exact ⟨hs, told⟩

theorem State.effect.kept (ht : s.leadsTo s.guard s.guard t) : s.effect i t := .of .keep ht

theorem State.effect_self (s : State) : s.effect i s := .kept s.leadsTo_self

/-- An update before the step that neither touches the protections nor adds a report. -/
theorem State.effect.from (h : t.effect i u) (hg : t.guard = s.guard) (hr : t.dl.reports = s.dl.reports) :
    s.effect i u :=
  ⟨hg ▸ h.step, fun q hq hn => h.told q hq (hr ▸ hn)⟩

/-- R118: every step keeps the law of the sounders. -/
theorem Guard.Step.keeps_law {g' : Guard} (h : Guard.Step i g g') (hg : g.law) : g'.law := by
  cases h with
  | keep => exact hg
  | stage new ha => simp [Guard.law, Guard.enter]
  | inhibit on => simp [Guard.law, Guard.inhibit]
  | lock c => exact hg
  | release h hi => exact hg
  | phase new ha => exact hg

/-- R60: a set lock keeps its cause, or RELEASE_LOCK clears it. -/
theorem Guard.Step.lock_kept {g' : Guard} (h : Guard.Step i g g') {c : LockCause} (hc : g.lock = some c) :
    g'.lock = some c ∨ (g'.lock = none ∧ ∃ h, i = .releaseLock h) := by
  cases h with
  | keep => exact .inl hc
  | stage new ha => exact .inl hc
  | inhibit on => exact .inl hc
  | lock c' => exact .inl (by simp [Guard.setLock, hc])
  | release h hi => exact .inr ⟨rfl, h, hi⟩
  | phase new ha => exact .inl hc

/-- R106, R113 to R117 and R120: EVACUATE is left for SILENCED by SILENCE, and otherwise for QUIET alone. -/
theorem Guard.Step.evacuate_left {g' : Guard} (h : Guard.Step i g g') (hg : g.stage = .evacuate) :
    g'.stage = .evacuate ∨ (g'.stage = .silenced ∧ ∃ h, i = .silence h) ∨ g'.stage = .quiet := by
  cases h with
  | keep => exact .inl hg
  | stage new ha =>
    rw [hg] at ha
    cases ha with
    | evacuate => exact .inl rfl
    | silence h hi => exact .inr (.inl ⟨rfl, h, hi⟩)
    | reset h hi => exact .inr (.inr rfl)
  | inhibit on => exact .inl hg
  | lock c => exact .inl hg
  | release h hi => exact .inl hg
  | phase new ha => exact .inl hg

/-- R120: QUIET is reached by ALARM_RESET. -/
theorem Guard.Step.quiet_reached {g' : Guard} (h : Guard.Step i g g') (hg : g.stage ≠ .quiet)
    (hq : g'.stage = .quiet) : ∃ h, i = .alarmReset h := by
  cases h with
  | keep => exact absurd hq hg
  | stage new ha =>
    obtain rfl : new = .quiet := hq
    generalize g.stage = x at ha
    cases ha with
    | reset h hi => exact ⟨h, hi⟩
  | inhibit on => exact absurd hq hg
  | lock c => exact absurd hq hg
  | release h hi => exact absurd hq hg
  | phase new ha => exact absurd hq hg

/-- R28: the phase stays or follows an arrow. -/
theorem Guard.Step.phase_kept {g' : Guard} (h : Guard.Step i g g') :
    g'.phase = g.phase ∨ PhaseArrow i g.stage g.phase g'.phase := by
  cases h with
  | keep => exact .inl rfl
  | stage new ha => exact .inl rfl
  | inhibit on => exact .inl rfl
  | lock c => exact .inl rfl
  | release h hi => exact .inl rfl
  | phase new ha => exact .inr ha

end

/-! ### The link -/

/-- R107: a STAGE report. -/
def Report.isStage : Report → Bool
  | .stage _ => true
  | _ => false

/-- R190: a report that joins the queue is the only one it did not hold. -/
theorem Link.mem_addReport {d : Link} {now : Clock} {r : Report} {q : Queued} (h : q ∈ (d.addReport now r).reports) :
    q ∈ d.reports ∨ q.report = r := by
  rcases List.mem_append.mp h with hq | hq
  · split at hq
    · exact .inl (List.mem_of_mem_drop hq)
    · exact .inl hq
  · rw [List.mem_singleton.mp hq]
    exact .inr rfl

theorem Link.mem_addStart {d : Link} {now : Clock} {r : Report} {q : Queued} (h : q ∈ (d.addStart now r).reports) :
    q ∈ d.reports ∨ q.report = r := by
  rcases List.mem_cons.mp h with rfl | hq
  · exact .inr rfl
  · split at hq
    · exact .inl (List.mem_of_mem_drop hq)
    · exact .inl hq

@[simp] theorem Link.addItem_reports (d : Link) (x : RxItem) : (d.addItem x).reports = d.reports := by
  unfold Link.addItem
  split <;> rfl

@[simp] theorem Link.hunt_reports (d : Link) : d.hunt.reports = d.reports := rfl

@[simp] theorem Link.byte_reports (d : Link) (b : Byte) : (d.byte b).reports = d.reports := by
  unfold Link.byte
  split
  · split <;> rfl
  · unfold Link.lengthByte
    split <;> simp
  · rfl
  · unfold Link.checkByte
    split <;> simp

/-- R189: the transmitter takes reports from the queue and adds none. -/
theorem Link.mem_send {d : Link} {waiting : List Queued} (hw : waiting ⊆ d.reports) :
    (d.send waiting).reports ⊆ d.reports := by
  unfold Link.send
  split
  · exact List.Subset.refl _
  · exact List.Subset.refl _
  · split
    · exact List.Subset.refl _
    · exact fun q hq => hw (List.mem_cons_of_mem _ hq)
  · split
    · exact List.Subset.refl _
    · exact fun q hq => hw (List.mem_cons_of_mem _ hq)

/-! Each rule below carries what has led from `s` to `t` on over one operation of a block, so that the operations that a
function of the model chains are followed in their order. -/

namespace State.leadsTo
variable {s t : State} {f g : Guard}

/-! ### Reports and notices -/

/-- A report of any kind but STAGE. -/
theorem addReport (h : s.leadsTo f g t) {r : Report} (hr : r.isStage = false) : s.leadsTo f g (t.addReport r) := by
  refine ⟨h.guard, fun q hq hn x hx => ?_⟩
  rcases Link.mem_addReport hq with hq | hq
  · exact h.told q hq hn x hx
  · rw [← hq, hx] at hr
    exact absurd hr nofun

/-- R107: a STAGE report of the protections as they stand. -/
theorem stageReport (h : s.leadsTo g g t) (a : Stage) (c : StageChange) (b : Bool) :
    s.leadsTo g g (t.stageReport a c b) := by
  obtain ⟨rfl, told⟩ := h
  refine ⟨rfl, fun q hq hn x hx => ?_⟩
  rcases Link.mem_addReport hq with hq | hq
  · exact told q hq hn x hx
  · obtain rfl := Report.stage.inj (hq.symm.trans hx)
    exact ⟨rfl, rfl⟩

/-- The link is changed and no report is added. -/
theorem link (h : s.leadsTo f g t) {d : Link} (hd : d.reports ⊆ t.dl.reports) : s.leadsTo f g { t with dl := d } :=
  ⟨h.guard, fun q hq => h.told q (hd hq)⟩

theorem putReply (h : s.leadsTo f g t) (x : Hdr) (code : Byte) (a : Answer) : s.leadsTo f g (t.putReply x code a) :=
  ⟨h.guard, h.told⟩

theorem notify (h : s.leadsTo f g t) (i : Instr) : s.leadsTo f g (t.notify i) := ⟨h.guard, h.told⟩

theorem notifyIf (h : s.leadsTo f g t) (c : Bool) (i : Instr) : s.leadsTo f g (t.notifyIf c i) := by
  cases c
  · exact h
  · exact h.notify i

theorem foldl {α : Type} {op : State → α → State} (hop : ∀ {t : State} a, s.leadsTo f g t → s.leadsTo f g (op t a))
    (l : List α) (h : s.leadsTo f g t) : s.leadsTo f g (l.foldl op t) := by
  induction l generalizing t with
  | nil => exact h
  | cons a l ih => exact ih (hop a h)

theorem ite {c : Prop} [Decidable c] {u v : State} (hu : s.leadsTo f g u) (hv : s.leadsTo f g v) :
    s.leadsTo f g (if c then u else v) := by
  split
  · exact hu
  · exact hv

/-! ### The Curtain Controller -/

/-- A change of the curtain that leaves the lock. -/
theorem curtain (h : s.leadsTo f g t) (c : Curtain) (hc : c.lock = t.cc.lock) : s.leadsTo f g { t with cc := c } := by
  obtain ⟨rfl, told⟩ := h
  exact ⟨by simp [State.guard, hc], told⟩

theorem setCurtain (h : s.leadsTo f g t) (c : CurtainState) (r : Option FaultReason) :
    s.leadsTo f g (t.setCurtain c r) := ⟨h.guard, h.told⟩

theorem curtainReport (h : s.leadsTo f g t) (p : CurtainState) (c : CurtainCause) :
    s.leadsTo f g (t.curtainReport p c) := h.addReport rfl

theorem enterCurtain (h : s.leadsTo f g t) (c : CurtainState) (r : Option FaultReason) (x : CurtainCause) :
    s.leadsTo f g (t.enterCurtain c r x) := (h.setCurtain c r).curtainReport _ _

theorem setMove (h : s.leadsTo f g t) (m : Option Movement) : s.leadsTo f g (t.setMove m) := ⟨h.guard, h.told⟩

theorem closeRecord (h : s.leadsTo f g t) (r : MoveRec) (o : MoveOutcome) (l : Nat) :
    s.leadsTo f g (t.closeRecord r o l) :=
  ((h.curtain _ (by rfl)).addReport rfl).notify _

theorem closeMove (h : s.leadsTo f g t) (o : MoveOutcome) : s.leadsTo f g (t.closeMove o) := by
  unfold State.closeMove
  split
  · exact h
  · exact h.closeRecord _ _ _

theorem blockMove (h : s.leadsTo f g t) (k : MoveKind) : s.leadsTo f g (t.blockMove k) := h.closeRecord _ _ _

theorem openMove (h : s.leadsTo f g t) (k : MoveKind) : s.leadsTo f g (t.openMove k) := h.setMove _

theorem warnReport (h : s.leadsTo f g t) (x : WarnReport) : s.leadsTo f g (t.warnReport x) := by
  unfold State.warnReport
  split
  · exact h
  · exact h.addReport rfl

theorem warn (h : s.leadsTo f g t) (x : WarnFlag) : s.leadsTo f g (t.warn x) := by
  unfold State.warn
  split
  · exact h
  · exact h.ite ((h.setMove _).warnReport _)

theorem obstruct (h : s.leadsTo f g t) : s.leadsTo f g t.obstruct := by
  unfold State.obstruct
  split
  · exact h
  · exact (h.warn _).ite h

theorem completeMove (h : s.leadsTo f g t) (m : Movement) : s.leadsTo f g (t.completeMove m) :=
  (h.closeRecord _ _ _).enterCurtain _ _ _

theorem tryComplete (h : s.leadsTo f g t) : s.leadsTo f g t.tryComplete.1 := by
  unfold State.tryComplete
  split
  · exact h
  · split
    · exact h.completeMove _
    · exact h

theorem sampleZero (h : s.leadsTo f g t) : s.leadsTo f g t.sampleZero := h.obstruct.tryComplete

theorem readingZero (h : s.leadsTo f g t) : s.leadsTo f g t.readingZero := h.tryComplete

theorem actOnFlags (h : s.leadsTo f g t) (m : Movement) (new : List FaultFlag) :
    s.leadsTo f g (t.actOnFlags m new).1 := by
  unfold State.actOnFlags
  dsimp only
  split
  · exact ((h.setMove _).closeMove _).enterCurtain _ _ _
  · exact foldl (fun _ h => h.warnReport _) _ (h.setMove _)

theorem project (h : s.leadsTo f g t) : s.leadsTo f g t.project := by
  unfold State.project
  split
  · exact h
  · exact h.ite (((h.setMove _).warn _).ite (h.setMove _))

theorem checkMove (h : s.leadsTo f g t) : s.leadsTo f g t.checkMove := by
  unfold State.checkMove
  split
  · exact h
  · have h1 := fun m => (h.setMove (some m)).actOnFlags m m.newFlags
    exact (h1 _).ite (h1 _).project

theorem gridSample (h : s.leadsTo f g t) (m : Movement) : s.leadsTo f g (t.gridSample m) := by
  have h1 := fun m => ((h.setMove (some m)).obstruct).tryComplete
  exact (h1 _).ite (h1 _).checkMove

theorem takeSample (h : s.leadsTo f g t) (p : Half) (a b c : Bool) (m : Movement) :
    s.leadsTo f g (t.takeSample p a b c m) :=
  (h.curtain _ (by rfl)).gridSample _

theorem replaceMove (h : s.leadsTo f g t) (k : MoveKind) : s.leadsTo f g (t.replaceMove k) := by
  unfold State.replaceMove
  split
  · exact h.openMove _
  · exact (h.closeMove _).setMove _

theorem blockedTrigger (h : s.leadsTo f g t) (k : MoveKind) : s.leadsTo f g (t.blockedTrigger k) := by
  have h1 := (((h.closeMove .aborted).blockMove k).setCurtain .parked none)
  unfold State.blockedTrigger
  split
  · exact h
  · exact h
  · exact h.blockMove k
  · exact h.blockMove k
  · exact h.blockMove k
  · exact h1
  · exact h1

theorem freeTrigger (h : s.leadsTo f g t) (k : MoveKind) : s.leadsTo f g (t.freeTrigger k) := by
  have h1 := (h.openMove k).setCurtain .lowering none
  have h2 := ((h.closeMove .aborted).openMove k).setCurtain .lowering none
  unfold State.freeTrigger
  split
  · exact h
  · exact h1
  · exact h1
  · exact h1
  · exact h2
  · exact h2
  · exact h.ite (h.replaceMove k)

theorem triggerSample (h : s.leadsTo f g t) (c : CurtainState) (b : Bool) : s.leadsTo f g (t.triggerSample c b) := by
  unfold State.triggerSample
  split
  · exact h
  · exact h.ite h.readingZero
  · exact h.sampleZero

theorem setLock (h : s.leadsTo f g t) (c : LockCause) : s.leadsTo f (g.setLock c) (t.setLock c) := by
  obtain ⟨rfl, told⟩ := h
  unfold State.setLock
  split
  · next hc => exact ⟨by simp [State.guard, Guard.setLock, hc], told⟩
  · next hc => exact ⟨by simp [State.guard, Guard.setLock, hc], told⟩

/-- R62 and R63: a fire-class trigger sets the lock and leaves the other protections. -/
theorem fireClass (h : s.leadsTo f g t) (c : LockCause) : s.leadsTo f (g.setLock c) (t.fireClass c) := by
  have h1 := h.setLock c
  have h2 := (h1.blockedTrigger c.kind).ite (c := t.im.inhibit.drive) (h1.freeTrigger c.kind)
  have h3 : ∀ {u : State}, s.leadsTo f (g.setLock c) u → s.leadsTo f (g.setLock c)
      (if t.cc.state ≠ u.cc.state ∨ t.cc.lock ≠ u.cc.lock then u.curtainReport t.cc.state c.report else u) :=
    fun h => (h.curtainReport _ _).ite h
  exact (h3 h2).ite ((h3 h2).triggerSample _ _)

theorem dropLock (h : s.leadsTo f g t) : s.leadsTo f g.dropLock t.dropLock := by
  obtain ⟨rfl, told⟩ := h
  unfold State.dropLock
  split
  · exact ⟨rfl, told⟩
  · next hc => exact ⟨by simp_all [State.guard, Guard.dropLock], told⟩

/-- R66: the return to QUIET clears the lock and leaves the other protections. -/
theorem alarmQuiet (h : s.leadsTo f g t) : s.leadsTo f g.dropLock t.alarmQuiet := by
  unfold State.alarmQuiet
  dsimp only
  have h1 : s.leadsTo f g (if (t.cc.state = .lowering && t.fireMove) = true then
      (t.closeMove t.shortOutcome).setCurtain .parked none else t) :=
    ((h.closeMove _).setCurtain _ _).ite h
  split
  · exact h1.dropLock.curtainReport _ _
  · next hc =>
    obtain ⟨hs, hl⟩ : ¬ (t.cc.state = .lowering && t.fireMove) = true ∧ t.cc.lock = none := by simpa using hc
    rw [if_neg hs]
    obtain ⟨rfl, told⟩ := h
    exact ⟨by simp [State.guard, Guard.dropLock, hl], told⟩

theorem stageLeftQuiet (h : s.leadsTo f g t) : s.leadsTo f g t.stageLeftQuiet := by
  have h1 := h.curtain { t.cc with permit := none } rfl
  exact ((h1.closeMove _).enterCurtain _ _ _).ite h1

theorem inhibitDrive (h : s.leadsTo f g t) : s.leadsTo f g t.inhibitDrive := by
  have h1 := fun o => (h.closeMove o).enterCurtain .parked none .inhibit
  unfold State.inhibitDrive
  split
  · exact h1 _
  · exact h1 _
  · exact h1 _
  · exact h
  · exact h
  · exact h
  · exact h

theorem holdMove (h : s.leadsTo f g t) (c : CurtainCause) : s.leadsTo f g (t.holdMove c) := by
  unfold State.holdMove
  dsimp only
  split
  · exact (h.curtain _ (by rfl)).enterCurtain _ _ _
  · exact ((h.setMove _).curtain _ (by rfl)).enterCurtain _ _ _

theorem startRaise (h : s.leadsTo f g t) : s.leadsTo f g t.startRaise := by
  have h1 := (h.closeMove .aborted).ite (c := t.cc.state = .held) h
  exact (((h1.curtain _ (by rfl)).openMove _).enterCurtain _ _ _).sampleZero

theorem resumeMove (h : s.leadsTo f g t) : s.leadsTo f g t.resumeMove :=
  (h.curtain _ (by rfl)).enterCurtain _ _ _

theorem clearFault (h : s.leadsTo f g t) : s.leadsTo f g t.clearFault := by
  unfold State.clearFault
  split
  exact (h.setCurtain _ _).ite (h.enterCurtain _ _ _)

end State.leadsTo

end Sys2Proof.Machine
end

section
/-! SUPPORT. The protections under the operations of the Override Selector and the Call Unit. -/

namespace Sys2Proof.Machine
namespace State.leadsTo
variable {s t : State} {f g : Guard}

/-! ### The Override Selector -/

theorem setSup (h : s.leadsTo f g t) (x : Supervision) : s.leadsTo f g (t.setSup x) := ⟨h.guard, h.told⟩

theorem deskReport (h : s.leadsTo f g t) (e : DeskEvent) (st : Station) : s.leadsTo f g (t.deskReport e st) :=
  h.addReport rfl

/-- A change of the override event set alone, with the selections worked after it. -/
theorem eventStep {u : State} (h : s.leadsTo f g t) (k : t.eventStep u) : s.leadsTo f g u := by
  rw [k.eq]
  exact ⟨h.guard, h.told⟩

theorem setLamps (h : s.leadsTo f g t) (v : Vector Lamp 48) : s.leadsTo f g (t.setLamps v) :=
  h.eventStep (setLamps_step t v).event

theorem loseDesk (h : s.leadsTo f g t) (st : Station) : s.leadsTo f g (t.loseDesk st) :=
  (((h.setSup _).eventStep (setDeskLoss_step _ _)).notify _).deskReport _ _

theorem supervise (h : s.leadsTo f g t) (st : Station) (w : Nat) (lock : Bool) :
    s.leadsTo f g (t.supervise st w lock) :=
  (((h.setSup _).deskReport _ _).ite h).ite ((h.setSup _).deskReport _ _)

theorem keepAlive (h : s.leadsTo f g t) (st : Station) : s.leadsTo f g (t.keepAlive st) :=
  (((h.setSup _).eventStep (setDeskLoss_step _ _)).deskReport _ _).ite (h.setSup _)

theorem supOff (h : s.leadsTo f g t) (st : Station) : s.leadsTo f g (t.supOff st) :=
  ((h.setSup _).eventStep (setDeskLoss_step _ _)).deskReport _ _

/-! ### Circuits, generators, channels and records of the Call Unit -/

/-- A change of the Call Unit alone. -/
theorem calls (h : s.leadsTo f g t) (u : Calls) : s.leadsTo f g { t with cu := u } := ⟨h.guard, h.told⟩

theorem grant (h : s.leadsTo f g t) (x : Holder) (m : CircuitSet) : s.leadsTo f g (t.grant x m) := h.calls _

theorem releaseCircuits (h : s.leadsTo f g t) (x : Holder) : s.leadsTo f g (t.releaseCircuits x) := h.calls _

theorem setDefaults (h : s.leadsTo f g t) : s.leadsTo f g t.setDefaults := h.calls _

theorem setChannel (h : s.leadsTo f g t) (i : Fin 2) (c : MessageChannel) : s.leadsTo f g (t.setChannel i c) :=
  h.calls _

theorem playMessage (h : s.leadsTo f g t) (i : Fin 2) (x : Holder) (n : Nat) : s.leadsTo f g (t.playMessage i x n) :=
  h.setChannel i _

theorem stopPlay (h : s.leadsTo f g t) (i : Fin 2) : s.leadsTo f g (t.stopPlay i) := h.setChannel i _

theorem releaseChannels (h : s.leadsTo f g t) (x : Holder) : s.leadsTo f g (t.releaseChannels x) := h.calls _

theorem setGenerator (h : s.leadsTo f g t) (i : Fin 2) (x : Generator) : s.leadsTo f g (t.setGenerator i x) := h.calls _

theorem setCall (h : s.leadsTo f g t) (c : Call) : s.leadsTo f g (t.setCall c) := h.calls _

theorem setStaff (h : s.leadsTo f g t) (x : Option StaffCall) : s.leadsTo f g (t.setStaff x) := h.calls _

theorem releaseCall (h : s.leadsTo f g t) (id : Byte) : s.leadsTo f g (t.releaseCall id) :=
  (((h.releaseCircuits _).releaseChannels _).calls _).calls _

theorem removeCall (h : s.leadsTo f g t) (id : Byte) : s.leadsTo f g (t.removeCall id) := h.calls _

theorem callReport (h : s.leadsTo f g t) (c : Call) (n : Nat) (e : CallEvent) (w : Option CallReason) (l : CircuitSet) :
    s.leadsTo f g (t.callReport c n e w l) := h.addReport rfl

theorem pageReport (h : s.leadsTo f g t) (p : Page) (e : CallEvent) (w : Option CallReason) (m l : CircuitSet) :
    s.leadsTo f g (t.pageReport p e w m l) := h.addReport rfl

/-! ### The end of calls and of the page -/

theorem dipNotices (h : s.leadsTo f g t) (id : Byte) (on : Bool) : s.leadsTo f g (t.dipNotices id on) :=
  h.foldl (fun _ h => h.notify _) _

theorem endCall (h : s.leadsTo f g t) (c : Call) (e : CallEvent) (w : Option CallReason) :
    s.leadsTo f g (t.endCall c e w) := by
  have h1 := (h.dipNotices c.id false).ite (c := c.dipping) h
  exact (((h1.releaseCall _).removeCall _).callReport _ _ _ _ _).notifyIf _ _

theorem abandon (h : s.leadsTo f g t) (c : Call) (w : CallReason) : s.leadsTo f g (t.abandon c w) := h.endCall c _ _

theorem callLoses (h : s.leadsTo f g t) (lost : CircuitSet) (c : Call) : s.leadsTo f g (t.callLoses lost c) :=
  h.ite ((h.abandon _ _).ite ((h.setCall _).callReport _ _ _ _ _))

theorem preemptChannel (h : s.leadsTo f g t) (i : Fin 2) : s.leadsTo f g (t.preemptChannel i) := by
  unfold State.preemptChannel
  split
  · split
    · exact h.abandon _ _
    · exact h
  · exact h

theorem endPage (h : s.leadsTo f g t) (p : Page) (e : CallEvent) (w : CallReason) : s.leadsTo f g (t.endPage p e w) :=
  ((h.releaseCircuits _).calls _).pageReport _ _ _ _ _

theorem pageLoses (h : s.leadsTo f g t) (lost : CircuitSet) : s.leadsTo f g (t.pageLoses lost) := by
  unfold State.pageLoses
  split
  · exact h
  · exact h.ite ((h.endPage _ _ _).ite ((h.calls _).pageReport _ _ _ _ _))

theorem takeCircuits (h : s.leadsTo f g t) (x : Holder) (m : CircuitSet) : s.leadsTo f g (t.takeCircuits x m) :=
  ((h.grant _ _).foldl (fun _ h => h.callLoses _ _) _).pageLoses _

/-! ### The start scan -/

theorem playChime (h : s.leadsTo f g t) (i : Fin 2) (c : Call) : s.leadsTo f g (t.playChime i c) := by
  unfold State.playChime
  split
  · exact (h.setGenerator _ _).setCall _
  · exact (h.setGenerator _ _).setCall _

theorem playCallMessage (h : s.leadsTo f g t) (i : Fin 2) (n : Nat) (c : Call) :
    s.leadsTo f g (t.playCallMessage i n c) := (h.playMessage i _ n).setCall _

theorem startDip (h : s.leadsTo f g t) (c : Call) : s.leadsTo f g (t.startDip c) := (h.setCall _).dipNotices _ _

theorem startOn (h : s.leadsTo f g t) (c : Call) : s.leadsTo f g (t.startOn c) :=
  ((h.grant _ _).setCall _).callReport _ _ _ _ _

theorem startFlick (h : s.leadsTo f g t) (c : Call) : s.leadsTo f g (t.startFlick c) :=
  (((h.calls _).setCall _).callReport _ _ _ _ _).startDip _

theorem scanCall (h : s.leadsTo f g t) (c : Call) : s.leadsTo f g (t.scanCall c) := by
  unfold State.scanCall
  dsimp only
  split
  · exact h.startFlick c
  · split
    · exact h.abandon _ _
    · split
      · exact h
      · exact h.ite ((h.startOn _).playChime _ _)
  · split
    · exact h.abandon _ _
    · split
      · exact h
      · exact h.ite ((h.startOn _).playCallMessage _ _ _)

theorem scanOne (h : s.leadsTo f g t) (id : Byte) : s.leadsTo f g (t.scanOne id) := by
  unfold State.scanOne
  split
  · exact (h.scanCall _).ite h
  · exact h

theorem scan (h : s.leadsTo f g t) : s.leadsTo f g t.scan := h.ite (h.foldl (fun _ h => h.scanOne _) _)

/-! ### Requests, notices and playback -/

theorem openPage (h : s.leadsTo f g t) (st : Station) (zones : List Nat) (m : CircuitSet) :
    s.leadsTo f g (t.openPage st zones m) :=
  (((h.calls _).takeCircuits _ _).pageReport _ _ _ _ _).scan

theorem endFlicks (h : s.leadsTo f g t) : s.leadsTo f g t.endFlicks := h.foldl (fun _ h => h.abandon _ _) _

theorem clearChannelZero (h : s.leadsTo f g t) : s.leadsTo f g t.clearChannelZero := by
  unfold State.clearChannelZero
  split
  · split
    · exact h.abandon _ _
    · exact h
  · exact h

theorem takeEveryCircuit (h : s.leadsTo f g t) : s.leadsTo f g t.takeEveryCircuit :=
  ((h.grant _ _).foldl (fun _ h => h.abandon _ _) _).pageLoses _

theorem startEvacuation (h : s.leadsTo f g t) (n : Nat) : s.leadsTo f g (t.startEvacuation n) :=
  (h.clearChannelZero.takeEveryCircuit.playMessage 0 .evacuation n).calls _

theorem stopEvacuation (h : s.leadsTo f g t) : s.leadsTo f g t.stopEvacuation :=
  (((h.releaseCircuits _).releaseChannels _).calls _).scan.ite h

theorem playStaff (h : s.leadsTo f g t) (x : StaffCall) (n : Nat) : s.leadsTo f g (t.playStaff x n) :=
  (h.playMessage 1 _ n).setStaff _

theorem startStaff (h : s.leadsTo f g t) (z : Nat) (m : Option Nat) : s.leadsTo f g (t.startStaff z m) := by
  unfold State.startStaff
  split
  · exact h.setStaff _
  · exact (h.setStaff _).ite (((h.preemptChannel 1).takeCircuits _ _).playStaff _ _)

theorem releaseStaff (h : s.leadsTo f g t) : s.leadsTo f g t.releaseStaff :=
  ((h.releaseCircuits _).releaseChannels _).setStaff _

theorem stopStaff (h : s.leadsTo f g t) : s.leadsTo f g t.stopStaff := h.releaseStaff.scan.ite h

theorem staffEnded (h : s.leadsTo f g t) : s.leadsTo f g t.staffEnded := by
  unfold State.staffEnded
  split
  · exact h
  · split
    · exact h
    · exact (h.playStaff _ _).ite h

theorem messageEnded (h : s.leadsTo f g t) (c : Call) : s.leadsTo f g (t.messageEnded c) :=
  (h.endCall _ _ _).scan.ite (h.setCall _)

theorem playEnded (h : s.leadsTo f g t) (i : Fin 2) (x : Holder) : s.leadsTo f g (t.playEnded i x) := by
  cases x with
  | evacuation => exact h.playMessage _ _ _
  | staffCall => exact (h.stopPlay i).staffEnded
  | page => exact h.stopPlay i
  | call id => exact h.stopPlay i

theorem noteEnded (h : s.leadsTo f g t) (i : Fin 2) (c : Call) (l : List Note) : s.leadsTo f g (t.noteEnded i c l) := by
  cases l with
  | nil => exact (h.endCall _ _ _).scan.ite ((h.setGenerator _ _).setCall _)
  | cons n more => exact (h.setGenerator _ _).setCall _

theorem dipEnded (h : s.leadsTo f g t) (c : Call) : s.leadsTo f g (t.dipEnded c) := by
  have h1 := (h.dipNotices c.id false).setCall { c with playback := .back (t.clock + Config.dipTicks) }
  exact (h1.abandon _ _).scan.ite h1

theorem repeatEnded (h : s.leadsTo f g t) (c : Call) : s.leadsTo f g (t.repeatEnded c) :=
  (h.abandon _ _).scan.ite ((h.endCall _ _ _).scan.ite (h.startDip _))

theorem cancelScripts (h : s.leadsTo f g t) (w : CallReason) : s.leadsTo f g (t.cancelScripts w) :=
  (h.foldl (fun _ h => h.endCall _ _ _) _).scan

theorem shiftScripts (h : s.leadsTo f g t) (n : Nat) (d : Clock) : s.leadsTo f g (t.shiftScripts n d) := h.calls _

theorem callTables (h : s.leadsTo f g t) : s.leadsTo f g t.callTables := h.setDefaults.scan

/-! ### Scripts and used flags -/

/-- A change of the tables alone. -/
theorem setTab (h : s.leadsTo f g t) (tab : Tables) : s.leadsTo f g { t with tab := tab } := ⟨h.guard, h.told⟩

theorem markHouse (h : s.leadsTo f g t) (i : Nat) : s.leadsTo f g (t.markHouse i) := by
  rw [State.markHouse_eq]
  exact h.setTab _

theorem markUsed (h : s.leadsTo f g t) (st : Station) (x : Selector) : s.leadsTo f g (t.markUsed st x) := by
  rw [State.markUsed_eq]
  exact h.setTab _

theorem markAll (h : s.leadsTo f g t) (st : Station) (xs : List Selector) : s.leadsTo f g (t.markAll st xs) := by
  rw [State.markAll_eq]
  exact h.setTab _

theorem placeStep (h : s.leadsTo f g t) (st : Station) (n : Nat) (stop : Clock) (x : ScriptStep) :
    s.leadsTo f g (t.placeStep st n stop x) := h.calls _

theorem placeScript (h : s.leadsTo f g t) (st : Station) (n : Nat) (stop : Clock) (l : List ScriptStep) :
    s.leadsTo f g (t.placeScript st n stop l).1 := by
  unfold State.placeScript
  split
  · exact h
  · split
    · exact h
    · exact (h.markAll _ _).foldl (fun _ h => h.placeStep _ _ _ _) _

end State.leadsTo
end Sys2Proof.Machine
end

section
/-! SUPPORT. The protections under the operations of the Alarm Unit, the Show Sequencer and Image and Maintenance. -/

namespace Sys2Proof.Machine
namespace State.leadsTo
variable {s t u : State} {f g : Guard}

/-! ### Lines, the list and isolations -/

/-- A change of the Alarm Unit that leaves the stage and the sounders. -/
theorem alarm (h : s.leadsTo f g t) (a : Alarm) (hs : a.stage = t.al.stage) (hb : a.sounders = t.al.sounders) :
    s.leadsTo f g { t with al := a } := by
  obtain ⟨rfl, told⟩ := h
  exact ⟨by simp [State.guard, hs, hb], told⟩

theorem setLine (h : s.leadsTo f g t) (n : Fin 32) (r : LineRec) : s.leadsTo f g (t.setLine n r) :=
  h.alarm _ rfl rfl

theorem appendEntry (h : s.leadsTo f g t) (e : AlarmEntry) : s.leadsTo f g (t.appendEntry e) := h.alarm _ rfl rfl

theorem lineReport (h : s.leadsTo f g t) (n : Fin 32) (a : LineState) (c : LineCause) :
    s.leadsTo f g (t.lineReport n a c) := h.addReport rfl

theorem isolationReport (h : s.leadsTo f g t) (n : Fin 32) (x : Isolation) (c : LineCause) :
    s.leadsTo f g (t.isolationReport n x c) := h.addReport rfl

theorem entryLost (h : s.leadsTo f g t) (n : Fin 32) : s.leadsTo f g (t.entryLost n) := by
  unfold State.entryLost
  dsimp only
  split
  · exact h.setLine _ _
  · exact h.setLine _ _
  · exact h
  · exact (h.setLine _ _).lineReport _ _ _
  · exact (h.setLine _ _).lineReport _ _ _

theorem lineTables (h : s.leadsTo f g t) (old : Tables) (n : Fin 32) : s.leadsTo f g (t.lineTables old n) := by
  unfold State.lineTables
  split
  · exact h.entryLost n
  · exact h.setLine _ _
  · exact h

theorem alarmTables (h : s.leadsTo f g t) (old : Tables) : s.leadsTo f g (t.alarmTables old) :=
  (h.foldl (fun _ h => h.lineTables _ _) _).notifyIf _ _

theorem isolate (h : s.leadsTo f g t) (n : Fin 32) (x : Isolation) : s.leadsTo f g (t.isolate n x) :=
  (h.setLine _ _).ite ((h.setLine _ _).lineReport _ _ _)

theorem endIsolation (h : s.leadsTo f g t) (n : Fin 32) : s.leadsTo f g (t.endIsolation n) := h.setLine _ _

theorem expireIsolation (h : s.leadsTo f g t) (n : Fin 32) (x : Isolation) (c : LineCause) :
    s.leadsTo f g (t.expireIsolation n x c) := ((h.endIsolation n).isolationReport n x c).lineReport _ _ _

theorem closeLine (h : s.leadsTo f g t) (n : Fin 32) : s.leadsTo f g (t.closeLine n) := by
  unfold State.closeLine
  split
  · exact h
  · exact (h.expireIsolation _ _ _).ite h

theorem closeLines (h : s.leadsTo f g t) : s.leadsTo f g t.closeLines := h.foldl (fun _ h => h.closeLine _) _

theorem resetLine (h : s.leadsTo f g t) (n : Fin 32) : s.leadsTo f g (t.resetLine n) :=
  ((h.setLine _ _).lineReport _ _ _).ite h

theorem emptyList (h : s.leadsTo f g t) : s.leadsTo f g t.emptyList :=
  (h.alarm { t.al with list := [] } rfl rfl).foldl (fun _ h => h.resetLine _) _

/-! ### The stages -/

theorem setStage (h : s.leadsTo f g t) (new : Stage) : s.leadsTo f (g.enter new) (t.setStage new) := by
  obtain ⟨rfl, told⟩ := h
  exact ⟨rfl, told⟩

theorem tellEvac (h : s.leadsTo f g t) : s.leadsTo f g t.tellEvac := by
  have h1 : s.leadsTo f g { t with notices := t.notices.filter fun i => decide (i ≠ .evacNotice false) } :=
    ⟨h.guard, h.told⟩
  exact h1.eventStep (setEvac_step _ true)

/-- R115: entry into EVACUATE; its STAGE report shows EVACUATE and the sounders that follow. -/
theorem evacuate (h : s.leadsTo (g.enter .evacuate) g t) (c : StageChange) :
    s.leadsTo (g.enter .evacuate) (g.enter .evacuate) (t.evacuate c) := by
  have h1 := (h.setStage .evacuate).stageReport t.al.stage c t.listTriggers
  have h2 := (h1.ite (c := t.al.stage = .silenced) h1.tellEvac).notify (.evacuationMessageStart t.tab.params.message)
  have h3 := h2.notifyIf (t.al.stage = .alert) .staffCallStop
  have h4 := (h3.stageLeftQuiet.ite (c := t.al.stage = .quiet) h3).notify .evacuatedNotice
  exact (h4.notifyIf _ _).notify _

theorem enterAlert (h : s.leadsTo (g.enter .alert) g t) (c : StageChange) (z : Nat) :
    s.leadsTo (g.enter .alert) (g.enter .alert) (t.enterAlert c z) := by
  have h1 := (h.setStage .alert).alarm
    { (t.setStage .alert).al with ackDue := some (t.clock + secondsTicks t.tab.params.tAck) } rfl rfl
  exact ((((h1.stageReport _ _ _).stageLeftQuiet).notify _).notify _).notify _

theorem acknowledge (h : s.leadsTo (g.enter .investigate) g t) (st : Station) (gate : Option Nat) :
    s.leadsTo (g.enter .investigate) (g.enter .investigate) (t.acknowledge st gate) := by
  have h1 := (h.setStage .investigate).alarm
    { (t.setStage .investigate).al with
      invDue := some (t.clock + secondsTicks t.tab.params.tInv), ackBy := some { station := st, gate } } rfl rfl
  exact ((h1.stageReport _ _ _).notify _).notify _

theorem silence (h : s.leadsTo (g.enter .silenced) g t) (st : Station) :
    s.leadsTo (g.enter .silenced) (g.enter .silenced) (t.silence st) :=
  (((h.setStage .silenced).stageReport _ _ _).notify _).notify _

theorem quietNotices (h : s.leadsTo f g t) (was : Stage) : s.leadsTo f g (t.quietNotices was) :=
  ((((h.notifyIf _ _).notifyIf _ _).notifyIf _ _).notify _).notify _

theorem resetAlarm (h : s.leadsTo (g.enter .quiet) g t) (st : Station) :
    s.leadsTo (g.enter .quiet) (g.enter .quiet) (t.resetAlarm st) := by
  have h1 := (h.emptyList.setStage .quiet).alarm
    { (t.emptyList.setStage .quiet).al with knockEnd := some (t.clock + Config.knockTicks) } rfl rfl
  exact (h1.stageReport _ _ _).quietNotices _

/-- R118: the sounders are read again. -/
theorem setSounders (h : s.leadsTo f g t) : s.leadsTo f (g.inhibit g.inhibited) t.setSounders := by
  obtain ⟨rfl, told⟩ := h
  exact ⟨rfl, told⟩

/-! ### The phases -/

theorem enterPhase (h : s.leadsTo f g t) (p : Phase) : s.leadsTo f { g with phase := p } (t.enterPhase p) := by
  obtain ⟨rfl, told⟩ := h
  exact ⟨rfl, told⟩

/-- A change of the performance record that leaves the phase. -/
theorem perf (h : s.leadsTo f g t) (p : Performance) (hp : p.phase = t.perf.phase) :
    s.leadsTo f g { t with perf := p } := by
  obtain ⟨rfl, told⟩ := h
  exact ⟨by simp [State.guard, hp], told⟩

theorem phaseReport (h : s.leadsTo f g t) (a : Phase) (c : PhaseCause) (st : Station) :
    s.leadsTo f g (t.phaseReport a c st) := h.addReport rfl

theorem dropInterval (h : s.leadsTo f g t) : s.leadsTo f g t.dropInterval := ⟨h.guard, h.told⟩

theorem prepare (h : s.leadsTo f g t) (st : Station) : s.leadsTo f { g with phase := .prepare } (t.prepare st) := by
  have h1 : s.leadsTo f { g with phase := .prepare } { t with tab := t.tab.clearUsed, perf := .cleared .prepare } :=
    ⟨(h.enterPhase .prepare).guard, h.told⟩
  exact (h1.enterPhase .prepare).phaseReport _ _ _

theorem openHouse (h : s.leadsTo f g t) (st : Station) :
    s.leadsTo f { g with phase := .houseOpen } (t.openHouse st) :=
  ((h.perf { t.perf with houseOpen := some t.clock } rfl).enterPhase _).phaseReport _ _ _

theorem beginAct (h : s.leadsTo f g t) (st : Station) : s.leadsTo f { g with phase := .act } (t.beginAct st) :=
  (((h.perf { t.perf with act := t.perf.act + 1 } rfl).dropInterval.cancelScripts _).enterPhase _).phaseReport _ _ _

theorem startInterval (h : s.leadsTo f g t) (stop : Clock) :
    s.leadsTo f { g with phase := .interval } (t.startInterval stop) := by
  have h1 : s.leadsTo f g { t with
      watch := true
      perf := { t.perf with interval := t.perf.interval + 1, intervalEnd := some stop } } := ⟨h.guard, h.told⟩
  exact h1.enterPhase .interval

theorem handScript (h : s.leadsTo f g t) (st : Station) (x : Option Selector) (stop : Clock) :
    s.leadsTo f g (t.handScript st x stop).1 := by
  cases x with
  | none => exact h
  | some x => exact h.placeScript _ _ _ _

theorem extendInterval (h : s.leadsTo f g t) (stop d : Clock) : s.leadsTo f g (t.extendInterval stop d) := by
  have h1 : s.leadsTo f g { t with watch := true, perf := { t.perf with intervalEnd := some stop } } :=
    ⟨h.guard, h.told⟩
  exact h1.shiftScripts _ _

theorem closeHouse (h : s.leadsTo f g t) (st : Station) :
    s.leadsTo f { g with phase := .showDown } (t.closeHouse st) :=
  (((h.dropInterval.cancelScripts _).closeLines).enterPhase _).phaseReport _ _ _

theorem goDark (h : s.leadsTo f g t) (st : Station) : s.leadsTo f { g with phase := .dark } (t.goDark st) := by
  have h1 := h.addReport (r := .summary t.perf t.perf.missed) rfl
  have h2 : s.leadsTo f { g with phase := .dark }
      { t.addReport (.summary t.perf t.perf.missed) with perf := .cleared .dark } :=
    ⟨(h1.enterPhase .dark).guard, h1.told⟩
  exact (h2.enterPhase .dark).phaseReport _ _ _

/-- An update of the state that neither touches the protections nor the reports. -/
theorem update (h : s.leadsTo f g t) (hg : u.guard = t.guard) (hd : u.dl = t.dl) : s.leadsTo f g u :=
  ⟨hg.trans h.guard, by rw [hd]; exact h.told⟩

/-- R27: the show clock is set; no protection is a due time. -/
theorem setClock (h : s.leadsTo f g t) (v : Clock) : s.leadsTo f g (t.setClock v) :=
  h.update (by simp [State.guard, State.setClock, Alarm.moveDues, Curtain.moveDues]) (by rw [State.setClock])

/-! ### The image, commissioning and the group inhibits -/

/-- A change of Image and Maintenance that leaves the sounder inhibit. -/
theorem maint (h : s.leadsTo f g t) (m : Maint) (hm : m.inhibit.sounders = t.im.inhibit.sounders) :
    s.leadsTo f g { t with im := m } := by
  obtain ⟨rfl, told⟩ := h
  exact ⟨by simp [State.guard, hm], told⟩

/-- A change of the Lighting Engine alone. -/
theorem lighting (h : s.leadsTo f g t) (l : Lighting) : s.leadsTo f g { t with le := l } := ⟨h.guard, h.told⟩

/-- A change of the paired records alone. -/
theorem pair (h : s.leadsTo f g t) (p : Vector (Option Paired) 16) : s.leadsTo f g { t with paired := p } :=
  ⟨h.guard, h.told⟩

theorem setImage (h : s.leadsTo f g t) (v : Bool) (r : Option DefaultReason) : s.leadsTo f g (t.setImage v r) :=
  h.maint _ rfl

theorem setComm (h : s.leadsTo f g t) (c : CommState) (w : Option Work) : s.leadsTo f g (t.setComm c w) :=
  h.maint _ rfl

theorem imageReport (h : s.leadsTo f g t) (e : ImageEvent) (r : Option ImageReason) (st : Station) :
    s.leadsTo f g (t.imageReport e r st) := h.addReport rfl

theorem startReport (h : s.leadsTo f g t) : s.leadsTo f g t.startReport := by
  refine ⟨h.guard, fun q hq hn x hx => ?_⟩
  rcases Link.mem_addStart hq with hq | hq
  · exact h.told q hq hn x hx
  · exact absurd (hq.symm.trans hx) nofun

theorem started (h : s.leadsTo f g t) : s.leadsTo f g t.started := (h.maint _ (by rfl)).startReport

theorem replaceTables (h : s.leadsTo f g t) (x : Tables) : s.leadsTo f g (t.replaceTables x) :=
  (h.setTab _).alarmTables _

theorem takeImage (h : s.leadsTo f g t) (x : Tables) : s.leadsTo f g (t.takeImage x) :=
  (((h.replaceTables x).lighting _).setLamps _).callTables

theorem endLoad (h : s.leadsTo f g t) (x : Loaded) : s.leadsTo f g (t.endLoad x) := by
  cases x with
  | valid x => exact ((h.takeImage x).setImage _ _).started
  | default r => exact (h.setImage _ _).started

theorem endReset (h : s.leadsTo f g t) (lr : Fin 4) (img : Bool) (c : Curtain) (hc : c.lock = t.cc.lock) :
    s.leadsTo f g (t.endReset lr img c) :=
  h.update (by simp [State.guard, State.endReset, hc]) rfl

theorem writeTables (h : s.leadsTo f g t) (x : Tables) : s.leadsTo f g (t.writeTables x) :=
  (((h.setTab x).lighting _).alarmTables _).notify _

theorem writeStation (h : s.leadsTo f g t) (n : Station) (r : StationRec) : s.leadsTo f g (t.writeStation n r) :=
  (h.pair _).writeTables _

theorem failWrite (h : s.leadsTo f g t) (r : ImageReason) (w : Work) : s.leadsTo f g (t.failWrite r w) :=
  (h.setComm _ _).imageReport _ _ _

theorem endWrite (h : s.leadsTo f g t) (l : Option (List Byte)) (w : Work) : s.leadsTo f g (t.endWrite l w) := by
  cases l with
  | none => exact h.failWrite _ _
  | some l =>
    exact ((((h.setComm _ _).setImage _ _).imageReport _ _ _).notify _).ite (h.failWrite _ _)

theorem endReload (h : s.leadsTo f g t) (x : Loaded) (w : Work) : s.leadsTo f g (t.endReload x w) :=
  ((((((h.replaceTables _).pair _).lighting _).setImage _ _).setComm _ _).imageReport _ _ _).notify _

/-- R205: the inhibit of a group other than the sounders. -/
theorem putInhibit (h : s.leadsTo f g t) (x : Group) (hx : x ≠ .sounders) (on : Bool) (st : Station) :
    s.leadsTo f g (t.putInhibit x on st) := by
  have h1 := h.maint { t.im with inhibit := t.im.inhibit.put x on } (by cases x <;> simp_all [Inhibits.put])
  exact h1.addReport rfl

/-- R118 and R205: the inhibit of the sounders, which follow it. -/
theorem putSounders (h : s.leadsTo f g t) (on : Bool) (st : Station) :
    s.leadsTo f (g.inhibit on) (t.putInhibit .sounders on st).setSounders := by
  obtain ⟨rfl, told⟩ := h
  have h1 : s.leadsTo f { t.guard with inhibited := on }
      { t with im := { t.im with inhibit := t.im.inhibit.put .sounders on } } := ⟨rfl, told⟩
  exact (h1.addReport rfl).setSounders

end State.leadsTo
end Sys2Proof.Machine
end

section
/-! SUPPORT. The step of the protections that each request makes: one lemma for each check that a request passes, and
one for each request. -/

namespace Sys2Proof.Machine
namespace State
variable {s t : State} {i : Instr} {st : Station} {x : Status}

/-! ### Checks -/

theorem effect_refused : s.effect i (refused x s).1 := s.effect_self

theorem effect_need {c : State → Bool} {k : Handler} (h : c s = true → s.effect i (k s).1) :
    s.effect i (need c x k s).1 := by
  unfold need
  split
  · next hc => exact h hc
  · exact s.effect_self

theorem effect_withStation {k : Handler} (h : s.effect i (k s).1) : s.effect i (withStation st k s).1 := by
  unfold withStation
  split
  · exact h
  · exact s.effect_self

theorem effect_withLevel {n : Nat} {k : Handler} (h : s.effect i (k s).1) : s.effect i (withLevel st n k s).1 := by
  refine effect_withStation ?_
  split
  · exact h
  · exact s.effect_self

/-- R18: marking entries as used is no step. -/
theorem effect_afterTab {tab : Tables} (h : { s with tab := tab }.effect i t) : s.effect i t := h.from rfl rfl

theorem effect_afterMarkHouse {n : Nat} (h : (s.markHouse n).effect i t) : s.effect i t := by
  rw [markHouse_eq] at h
  exact effect_afterTab h

theorem effect_afterMarkUsed {y : Selector} (h : (s.markUsed st y).effect i t) : s.effect i t := by
  rw [markUsed_eq] at h
  exact effect_afterTab h

theorem effect_afterMarkAll {ys : List Selector} (h : (s.markAll st ys).effect i t) : s.effect i t := by
  rw [markAll_eq] at h
  exact effect_afterTab h

theorem effect_withObject {raw : Half} {w : Want} {k : Selector → Handler} (h : ∀ y (t : State), t.effect i (k y t).1) :
    s.effect i (withObject st raw w k s).1 := by
  unfold withObject
  cases decodeSelector raw with
  | none => exact effect_refused
  | some y =>
    refine effect_withStation ?_
    split
    · exact s.effect_self
    · exact effect_afterMarkUsed (h _ _)

theorem effect_withObjects {raws : List Half} {w : Want} {k : List Selector → Handler}
    (h : ∀ ys (t : State), t.effect i (k ys t).1) : s.effect i (withObjects st raws w k s).1 := by
  unfold withObjects
  cases decodeSelectors raws with
  | none => exact effect_refused
  | some ys =>
    refine effect_withStation ?_
    split
    · exact s.effect_self
    · exact effect_afterMarkAll (h _ _)

theorem effect_inPhase {l : List Phase} {k : Handler} (h : s.guard.phase ∈ l → s.effect i (k s).1) :
    s.effect i (inPhase l k s).1 :=
  effect_need fun _ => effect_need fun hl => h (List.contains_iff_mem.mp hl)

theorem effect_notBusy {k : Handler} (h : s.effect i (k s).1) : s.effect i (notBusy k s).1 := effect_need fun _ => h

theorem effect_inCommissioning {k : Handler} (h : s.effect i (k s).1) : s.effect i (inCommissioning k s).1 :=
  effect_notBusy (effect_need fun _ => h)

/-! ### The Authority Unit -/

theorem askStatus_effect (h : Hdr) : s.effect i (askStatus h s).1 := effect_withStation s.effect_self

theorem askDescribe_effect (h : Hdr) : s.effect i (askDescribe h s).1 := effect_withStation s.effect_self

theorem askResetEnable_effect (h : Hdr) (a : Byte) : s.effect i (askResetEnable h a s).1 := by
  unfold askResetEnable
  cases pairedAction a with
  | none => exact effect_refused
  | some y =>
    exact effect_withLevel (.kept (s.leadsTo_self.pair _))

theorem askReadObject_effect (h : Hdr) (a : Half) : s.effect i (askReadObject h a s).1 := by
  unfold askReadObject
  cases decodeSelector a with
  | none => exact effect_refused
  | some y =>
    refine effect_withStation ?_
    split
    · exact s.effect_self
    · exact s.effect_self

theorem askReadStation_effect (h : Hdr) (n : Byte) : s.effect i (askReadStation h n s).1 := by
  unfold askReadStation
  split
  · refine effect_withStation ?_
    split
    · exact s.effect_self
    · exact s.effect_self
  · exact effect_refused

/-! ### The Curtain Controller -/

theorem askLower_effect (h : Hdr) (a : Half) : s.effect i (askLower h a s).1 :=
  effect_withObject fun _ t => effect_need fun _ => effect_need fun _ => effect_need fun _ => effect_need fun _ =>
    .kept ((t.leadsTo_self.openMove _).enterCurtain _ _ _).sampleZero

theorem askPermitRaise_effect (h : Hdr) : s.effect i (askPermitRaise h s).1 :=
  effect_withLevel <| effect_need fun _ => effect_need fun _ => .kept (s.leadsTo_self.curtain _ (by rfl))

theorem askRaise_effect (h : Hdr) (a : Half) : s.effect i (askRaise h a s).1 :=
  effect_withObject fun _ t => effect_need fun _ => effect_need fun _ => effect_need fun _ => effect_need fun _ =>
    effect_need fun _ => effect_need fun _ => .kept t.leadsTo_self.startRaise

theorem askHold_effect (h : Hdr) (a : Half) : s.effect i (askHold h a s).1 :=
  effect_withObject fun _ t => effect_need fun _ => effect_need fun _ => .kept (t.leadsTo_self.holdMove _)

theorem askResume_effect (h : Hdr) (a : Half) : s.effect i (askResume h a s).1 :=
  effect_withObject fun _ t => effect_need fun _ => effect_need fun _ => effect_need fun _ => effect_need fun _ =>
    effect_need fun _ => effect_need fun _ => .kept t.leadsTo_self.resumeMove

theorem askClearFault_effect (h : Hdr) : s.effect i (askClearFault h s).1 :=
  effect_withLevel <| effect_need fun _ => .kept s.leadsTo_self.clearFault

/-- R61: RELEASE_LOCK clears the lock. -/
theorem askReleaseLock_effect (h : Hdr) : s.effect (.releaseLock h) (askReleaseLock h s).1 :=
  effect_withLevel <| effect_need fun _ => effect_need fun _ => effect_need fun _ =>
    .of (.release h rfl) (s.leadsTo_self.dropLock.curtainReport _ _)

theorem askReadMovements_effect (h : Hdr) : s.effect i (askReadMovements h s).1 := effect_withStation s.effect_self

/-! ### The Alarm Unit -/

/-- R101: a new entry leads from any stage but EVACUATE to ALERT or EVACUATE; nothing before it told of a stage. -/
theorem takeEntry_effect (h : ∀ f, s.leadsTo f s.guard t) (e : AlarmEntry) (a : Station) :
    s.effect i (t.takeEntry e a) := by
  have hs : s.guard.stage = t.al.stage := congrArg Guard.stage (h s.guard).guard.symm
  have hev : ∀ c, s.effect i (t.evacuate c) := fun c => .of (.stage .evacuate (.evacuate _)) ((h _).evacuate c)
  unfold takeEntry
  dsimp only
  split
  · next hq =>
    split
    · exact .of (.stage .alert (by rw [hs, hq]; exact .alert)) ((h _).enterAlert _ _)
    · exact hev _
  · exact hev _
  · exact hev _
  · exact hev _
  · exact .kept ((h _).notifyIf _ _)

theorem takeManualCall_effect (gate zone : Nat) : s.effect i (takeManualCall st gate zone s).1 := by
  unfold takeManualCall
  split
  · exact s.effect_self
  · split
    · exact s.effect_self
    · exact takeEntry_effect (fun _ => s.leadsTo_self.appendEntry _) _ _

theorem takeAcknowledge_effect (gate : Option Nat) : s.effect i (takeAcknowledge st gate s).1 :=
  effect_need fun hs => .of (.stage .investigate (by
    rw [show s.guard.stage = .alert from of_decide_eq_true hs]
    exact .investigate)) (s.leadsTo_self.acknowledge _ _)

theorem gateManualCall_effect (gate zone : Nat) (l : Level) : s.effect i (gateManualCall st gate l zone s).1 := by
  unfold gateManualCall
  split
  · exact s.effect_self
  · exact effect_afterMarkHouse (effect_afterMarkHouse (takeManualCall_effect _ _))

theorem effect_afterMarkCurtain (h : s.markCurtain.effect i t) : s.effect i t := by
  unfold markCurtain at h
  split at h
  · exact h
  · exact effect_afterMarkHouse h

theorem gateManualDrop_effect (gate : Nat) (l : Level) : s.effect i (gateManualDrop gate l s).1 := by
  unfold gateManualDrop
  split
  · exact s.effect_self
  · exact effect_afterMarkHouse (effect_afterMarkCurtain (.of (.lock .manual) (State.leadsTo_self _ |>.fireClass _)))

theorem gateAlarmAck_effect (gate : Nat) (l : Level) : s.effect i (gateAlarmAck st gate l s).1 := by
  unfold gateAlarmAck
  split
  · exact effect_afterMarkHouse (takeAcknowledge_effect _)
  · exact s.effect_self

theorem gateAction_effect (gate : Nat) (b : GateBody) : s.effect i (gateAction st gate b s).1 := by
  unfold gateAction
  cases b.action with
  | manualCall => exact gateManualCall_effect _ _ _
  | manualDrop => exact gateManualDrop_effect _ _
  | alarmAck => exact gateAlarmAck_effect _ _

theorem askUseGate_effect (h : Hdr) (a : Half) : s.effect i (askUseGate h a s).1 := by
  unfold askUseGate
  cases decodeSelector a with
  | none => exact effect_refused
  | some y =>
    refine effect_withStation ?_
    split
    · exact s.effect_self
    · split
      · exact s.effect_self
      · exact gateAction_effect _ _

theorem askIsolate_effect (h : Hdr) (a : Half) (m : Byte) : s.effect i (askIsolate h a m s).1 := by
  refine effect_withObject fun _ t => ?_
  split
  · exact t.effect_self
  · exact effect_need fun _ => effect_need fun _ => effect_need fun _ => .kept (t.leadsTo_self.isolate _ _)

theorem askDeisolate_effect (h : Hdr) (a : Half) : s.effect i (askDeisolate h a s).1 := by
  refine effect_withObject fun _ t => ?_
  split
  · exact t.effect_self
  · exact effect_need fun _ => .kept ((t.leadsTo_self.endIsolation _).lineReport _ _ _)

theorem askReadAlarmList_effect (h : Hdr) : s.effect i (askReadAlarmList h s).1 := effect_withStation s.effect_self

theorem askReadLines_effect (h : Hdr) : s.effect i (askReadLines h s).1 := effect_withStation s.effect_self

theorem askAcknowledge_effect (h : Hdr) : s.effect i (askAcknowledge h s).1 :=
  effect_withLevel (takeAcknowledge_effect _)

theorem askEvacuateNow_effect (h : Hdr) : s.effect i (askEvacuateNow h s).1 :=
  effect_withLevel <| effect_need fun _ => .of (.stage .evacuate (.evacuate _)) (s.leadsTo_self.evacuate _)

/-- R117: SILENCE leaves EVACUATE for SILENCED. -/
theorem askSilence_effect (h : Hdr) : s.effect (.silence h) (askSilence h s).1 :=
  effect_withLevel <| effect_need fun hs => .of (.stage .silenced (by
    rw [show s.guard.stage = .evacuate from of_decide_eq_true hs]
    exact .silence h rfl)) (s.leadsTo_self.silence _)

/-- R120: ALARM_RESET returns to QUIET. -/
theorem askAlarmReset_effect (h : Hdr) (p : Option Paired) : s.effect (.alarmReset h) (askAlarmReset h p s).1 :=
  effect_withLevel <| effect_need fun _ => effect_need fun _ =>
    .of (.stage .quiet (.reset h rfl _)) (s.leadsTo_self.resetAlarm _)

/-! ### The Show Sequencer -/

theorem askSetClock_effect (h : Hdr) (v : Clock) : s.effect i (askSetClock h v s).1 :=
  effect_withLevel <| effect_need fun _ => effect_need fun _ => effect_need fun _ => .kept (s.leadsTo_self.setClock v)

theorem askPrepare_effect (h : Hdr) : s.effect (.prepare h) (askPrepare h s).1 :=
  effect_withLevel <| effect_inPhase fun hp => .of (.phase .prepare (by
    rw [show s.guard.phase = .dark by simpa using hp]
    exact .prepare h rfl)) (s.leadsTo_self.prepare _)

theorem askOpenHouse_effect (h : Hdr) : s.effect (.openHouse h) (askOpenHouse h s).1 :=
  effect_withLevel <| effect_inPhase fun hp => effect_need fun hs => effect_need fun _ => effect_need fun _ =>
    .of (.phase .houseOpen (by
      rw [show s.guard.phase = .prepare by simpa using hp]
      exact .openHouse h rfl (of_decide_eq_true hs))) (s.leadsTo_self.openHouse _)

theorem askBeginAct_effect (h : Hdr) : s.effect (.beginAct h) (askBeginAct h s).1 :=
  effect_withLevel <| effect_inPhase fun hp => effect_need fun hs => effect_need fun _ => effect_need fun _ =>
    .of (.phase .act (.beginAct h rfl (of_decide_eq_true hs) _ (by simpa using hp))) (s.leadsTo_self.beginAct _)

theorem testInterval_effect (h : Hdr) (m : Byte) (a : Half) (y : Option Selector) :
    s.effect (.beginInterval h m a) (testInterval h m y s).1 :=
  effect_inPhase fun hp => effect_need fun hs => effect_need fun _ =>
    .of (.phase .interval (by
      rw [show s.guard.phase = .act by simpa using hp]
      exact .beginInterval h m a rfl (of_decide_eq_true hs)))
      (((s.leadsTo_self.startInterval _).handScript _ _ _).phaseReport _ _ _)

theorem askBeginInterval_effect (h : Hdr) (m : Byte) (a : Half) :
    s.effect (.beginInterval h m a) (askBeginInterval h m a s).1 := by
  unfold askBeginInterval
  cases decodeSelector a with
  | none => exact effect_refused
  | some y =>
    refine effect_withLevel ?_
    split
    · exact testInterval_effect h m a none
    · split
      · exact s.effect_self
      · exact effect_afterMarkUsed (testInterval_effect h m a _)

theorem askExtendInterval_effect (h : Hdr) (m : Byte) : s.effect i (askExtendInterval h m s).1 :=
  effect_withLevel <| effect_inPhase fun _ => .kept (s.leadsTo_self.extendInterval _ _)

theorem askCloseHouse_effect (h : Hdr) : s.effect (.closeHouse h) (askCloseHouse h s).1 :=
  effect_withLevel <| effect_inPhase fun hp =>
    .of (.phase .showDown (.closeHouse h rfl _ (by simpa using hp))) (s.leadsTo_self.closeHouse _)

theorem askGoDark_effect (h : Hdr) : s.effect (.goDark h) (askGoDark h s).1 :=
  effect_withLevel <| effect_inPhase fun hp => effect_need fun hs =>
    .of (.phase .dark (.goDark h rfl (of_decide_eq_true hs) _ (by simpa using hp))) (s.leadsTo_self.goDark _)

/-! ### The Lighting Engine -/

theorem leadsTo.startFade {f g : Guard} (h : s.leadsTo f g t) (o v n : Nat) (a : Station) :
    s.leadsTo f g (t.startFade o v n a) := by
  unfold State.startFade
  split
  · exact h.lighting _
  · exact h

theorem askSetLevel_effect (h : Hdr) (a l d : Half) : s.effect i (askSetLevel h a l d s).1 := by
  refine effect_withObject fun _ t => ?_
  split
  · exact t.effect_self
  · exact .kept (t.leadsTo_self.startFade _ _ _ _)

theorem askStandby_effect (h : Hdr) (a : Half) : s.effect i (askStandby h a s).1 := by
  unfold askStandby
  cases decodeSelector a with
  | none => exact effect_refused
  | some y =>
    refine effect_withStation ?_
    split
    · exact s.effect_self
    · split
      · exact s.effect_self
      · split
        · exact s.effect_self
        · exact .kept (((s.leadsTo_self.markUsed _ _).markAll _ _).lighting _)

theorem askGo_effect (h : Hdr) : s.effect i (askGo h s).1 := by
  refine effect_withStation ?_
  split
  · exact s.effect_self
  · split
    · exact .kept (s.leadsTo_self.lighting _)
    · exact .kept ((s.leadsTo_self.foldl (fun _ h => h.startFade _ _ _ _) _).lighting _)

theorem askSetCycle_effect (h : Hdr) (n : Byte) : s.effect i (askSetCycle h n s).1 :=
  effect_withLevel <| effect_need fun _ => effect_need fun _ => .kept (s.leadsTo_self.lighting _)

theorem askReadChannel_effect (h : Hdr) (a : Half) : s.effect i (askReadChannel h a s).1 := by
  refine effect_withObject fun _ t => ?_
  split
  · exact t.effect_self
  · exact t.effect_self

/-! ### Desk supervision -/

theorem askSupervise_effect (h : Hdr) (w l : Byte) : s.effect i (askSupervise h w l s).1 :=
  effect_withLevel <| effect_need fun _ => effect_need fun _ => .kept (s.leadsTo_self.supervise _ _ _)

theorem askKeepalive_effect (h : Hdr) : s.effect i (askKeepalive h s).1 :=
  effect_withStation <| effect_need fun _ => .kept (s.leadsTo_self.keepAlive _)

theorem askForceExpire_effect (h : Hdr) : s.effect i (askForceExpire h s).1 :=
  effect_withLevel <| effect_need fun _ => .kept (s.leadsTo_self.loseDesk _)

theorem askSuperviseOff_effect (h : Hdr) : s.effect i (askSuperviseOff h s).1 :=
  effect_withLevel <| effect_need fun _ => effect_need fun _ => .kept (s.leadsTo_self.supOff _)

/-! ### The Call Unit -/

theorem askCall_effect (h : Hdr) (due : State → Clock) (k n r : Byte) (zs : List Half) :
    s.effect i (askCall h due k n r zs s).1 := by
  unfold askCall
  cases requestKind k n with
  | none => exact effect_refused
  | some kind =>
    split
    · exact effect_withObjects fun _ t => effect_need fun _ => .kept (t.leadsTo_self.calls _)
    · exact effect_refused

theorem askCallCancel_effect (h : Hdr) (id : Byte) : s.effect i (askCallCancel h id s).1 := by
  refine effect_withStation ?_
  split
  · exact s.effect_self
  · split
    · exact .kept (s.leadsTo_self.endCall _ _ _).scan
    · exact s.effect_self

theorem askReadQueue_effect (h : Hdr) : s.effect i (askReadQueue h s).1 := effect_withStation s.effect_self

theorem askPageOpen_effect (h : Hdr) (zs : List Half) : s.effect i (askPageOpen h zs s).1 := by
  unfold askPageOpen
  split
  · exact effect_withObjects fun _ t => effect_need fun _ => effect_need fun _ => effect_need fun _ =>
      .kept (t.leadsTo_self.openPage _ _ _)
  · exact effect_refused

theorem askPageClose_effect (h : Hdr) : s.effect i (askPageClose h s).1 := by
  refine effect_withStation ?_
  split
  · exact s.effect_self
  · exact .kept (s.leadsTo_self.endPage _ _ _).scan

/-! ### Image and Maintenance -/

theorem askCommissionBegin_effect (h : Hdr) : s.effect i (askCommissionBegin h s).1 :=
  effect_withLevel <| effect_notBusy <| effect_need fun _ => effect_need fun _ => effect_need fun _ =>
    effect_need fun _ => .kept (s.leadsTo_self.setComm _ _)

theorem effect_afterMarkWritten {b : Byte} {y : Selector} (h : (s.markWritten b y).effect i t) : s.effect i t := by
  unfold markWritten at h
  split at h
  · exact h
  · split at h
    · exact effect_afterMarkUsed h
    · exact h

theorem takeWriteObject_effect (b : Byte) (y : Selector) (a : Half) (l : List Byte) :
    s.effect i (takeWriteObject b y a l s).1 := by
  refine effect_inCommissioning ?_
  split
  · exact s.effect_self
  · exact .kept (s.leadsTo_self.writeTables _)

theorem askWriteObject_effect (h : Hdr) (b : Byte) (o a : Half) (l : List Byte) :
    s.effect i (askWriteObject h b o a l s).1 := by
  unfold askWriteObject
  cases decodeSelector o with
  | none => exact effect_refused
  | some y =>
    refine effect_withLevel ?_
    split
    · exact s.effect_self
    · exact effect_afterMarkWritten (takeWriteObject_effect _ _ _ _)

theorem askWriteStation_effect (h : Hdr) (n p c : Byte) : s.effect i (askWriteStation h n p c s).1 := by
  refine effect_withLevel (effect_inCommissioning ?_)
  split
  · exact s.effect_self
  · exact .kept (s.leadsTo_self.writeStation _ _)

theorem askWriteParamsSection0_effect (h : Hdr) (l a : Byte) (v : Half) (m c : Byte) :
    s.effect i (askWriteParamsSection0 h l a v m c s).1 := by
  refine effect_withLevel (effect_inCommissioning ?_)
  split
  · exact s.effect_self
  · exact .kept (s.leadsTo_self.writeTables _)

theorem askWriteParamsSection1_effect (h : Hdr) (p : Byte) (l : List (Half × Byte)) :
    s.effect i (askWriteParamsSection1 h p l s).1 := by
  refine effect_withLevel (effect_inCommissioning ?_)
  split
  · exact s.effect_self
  · exact .kept (s.leadsTo_self.writeTables _)

theorem askMalformedWrite_effect (h : Hdr) : s.effect i (askMalformedWrite h s).1 :=
  effect_withLevel (effect_inCommissioning effect_refused)

theorem askCommit_effect (h : Hdr) : s.effect i (askCommit h s).1 := by
  refine effect_withLevel (effect_inCommissioning (effect_need fun _ => ?_))
  split
  · exact s.effect_self
  · exact .kept (s.leadsTo_self.setComm _ _)

theorem askAbort_effect (h : Hdr) : s.effect i (askAbort h s).1 :=
  effect_withLevel (effect_inCommissioning (.kept (s.leadsTo_self.setComm _ _)))

theorem inhibitSet_effect (g : Group) : s.effect i ((s.putInhibit g true st).inhibitSet g) := by
  cases g with
  | drive => exact .kept (s.leadsTo_self.putInhibit .drive nofun _ _).inhibitDrive
  | lighting => exact .kept ((s.leadsTo_self.putInhibit .lighting nofun _ _).lighting _)
  | audio => exact .kept (s.leadsTo_self.putInhibit .audio nofun _ _)
  | sounders => exact .of (.inhibit true) (s.leadsTo_self.putSounders _ _)

theorem inhibitCleared_effect (g : Group) : s.effect i ((s.putInhibit g false st).inhibitCleared g) := by
  cases g with
  | drive => exact .kept (s.leadsTo_self.putInhibit .drive nofun _ _)
  | lighting => exact .kept (s.leadsTo_self.putInhibit .lighting nofun _ _)
  | audio => exact .kept (s.leadsTo_self.putInhibit .audio nofun _ _)
  | sounders => exact .of (.inhibit false) (s.leadsTo_self.putSounders _ _)

theorem askInhibitGroup_effect (h : Hdr) (b : Byte) : s.effect i (askInhibitGroup h b s).1 := by
  unfold askInhibitGroup
  cases groupOf b with
  | none => exact effect_refused
  | some g =>
    refine effect_withLevel (effect_notBusy (effect_need fun _ => ?_))
    split
    · exact s.effect_self
    · exact inhibitSet_effect _

theorem askClearInhibit_effect (h : Hdr) (b : Byte) : s.effect i (askClearInhibit h b s).1 := by
  unfold askClearInhibit
  cases groupOf b with
  | none => exact effect_refused
  | some g =>
    exact effect_withLevel (effect_notBusy (effect_need fun _ => inhibitCleared_effect _))

theorem askRestart_effect (h : Hdr) (p : Option Paired) : s.effect i (askRestart h p s).1 :=
  effect_withLevel <| effect_need fun _ => effect_notBusy <| effect_need fun _ => effect_need fun _ =>
    effect_need fun _ => .kept (s.leadsTo_self.link (List.Subset.refl _))

end State
end Sys2Proof.Machine
end

section
/-! SUPPORT. The step of the protections that each command makes: a request as it arrives or is taken from the receive
buffer, and every event and notice. -/

namespace Sys2Proof.Machine
namespace State
variable {s t : State} {i j : Instr}

/-! ### Requests -/

/-- R185: whichever block owns a request, its handler makes a step of that request. -/
theorem handlerOf_effect (i : Instr) (p : Option Paired) (s : State) : s.effect i (handlerOf i p s).1 := by
  cases i with
  | status h => exact askStatus_effect h
  | describe h => exact askDescribe_effect h
  | useGate h a => exact askUseGate_effect h a
  | resetEnable h a => exact askResetEnable_effect h a
  | readObject h a => exact askReadObject_effect h a
  | readStation h n => exact askReadStation_effect h n
  | setClock h v => exact askSetClock_effect h v
  | prepare h => exact askPrepare_effect h
  | openHouse h => exact askOpenHouse_effect h
  | beginAct h => exact askBeginAct_effect h
  | beginInterval h m a => exact askBeginInterval_effect h m a
  | extendInterval h m => exact askExtendInterval_effect h m
  | closeHouse h => exact askCloseHouse_effect h
  | goDark h => exact askGoDark_effect h
  | lower h a => exact askLower_effect h a
  | permitRaise h => exact askPermitRaise_effect h
  | raise h a => exact askRaise_effect h a
  | hold h a => exact askHold_effect h a
  | resume h a => exact askResume_effect h a
  | clearFault h => exact askClearFault_effect h
  | releaseLock h => exact askReleaseLock_effect h
  | readMovements h => exact askReadMovements_effect h
  | isolate h a m => exact askIsolate_effect h a m
  | deisolate h a => exact askDeisolate_effect h a
  | readAlarmList h => exact askReadAlarmList_effect h
  | readLines h => exact askReadLines_effect h
  | acknowledge h => exact askAcknowledge_effect h
  | evacuateNow h => exact askEvacuateNow_effect h
  | silence h => exact askSilence_effect h
  | alarmReset h => exact askAlarmReset_effect h p
  | setLevel h a l d => exact askSetLevel_effect h a l d
  | standby h a => exact askStandby_effect h a
  | go h => exact askGo_effect h
  | setCycle h n => exact askSetCycle_effect h n
  | readChannel h a => exact askReadChannel_effect h a
  | supervise h w l => exact askSupervise_effect h w l
  | keepalive h => exact askKeepalive_effect h
  | forceExpire h => exact askForceExpire_effect h
  | superviseOff h => exact askSuperviseOff_effect h
  | callNow h k n r zs => exact askCall_effect h _ k n r zs
  | callAt h d k n r zs => exact askCall_effect h _ k n r zs
  | callCancel h id => exact askCallCancel_effect h id
  | readQueue h => exact askReadQueue_effect h
  | pageOpen h zs => exact askPageOpen_effect h zs
  | pageClose h => exact askPageClose_effect h
  | commissionBegin h => exact askCommissionBegin_effect h
  | writeObject h b o a l => exact askWriteObject_effect h b o a l
  | writeStation h n p c => exact askWriteStation_effect h n p c
  | writeParamsSection0 h l a v m c => exact askWriteParamsSection0_effect h l a v m c
  | writeParamsSection1 h p l => exact askWriteParamsSection1_effect h p l
  | commit h => exact askCommit_effect h
  | abort h => exact askAbort_effect h
  | inhibitGroup h b => exact askInhibitGroup_effect h b
  | clearInhibit h b => exact askClearInhibit_effect h b
  | restart h => exact askRestart_effect h p
  | _ => exact effect_refused

theorem effect.putReply (k : s.effect i t) (h : Hdr) (code : Byte) (a : Answer) : s.effect i (t.putReply h code a) :=
  ⟨k.step, k.told⟩

/-- R22 and R185: the paired record removed and the reply placed are no step. -/
theorem serve_effect (h : Hdr) (code : Byte) {body : Option Paired → Handler}
    (hb : ∀ p (u : State), u.effect i (body p u).1) : s.effect i (serve h code body s) := by
  refine effect.putReply ?_ h code _
  split
  · exact .kept (s.leadsTo_self.pair _)
  · exact (hb _ _).from rfl rfl

theorem exec_request {h : Hdr} (hi : headerOf i = some h) : exec i s = arrive i h (handlerOf i) s := by
  cases i <;> cases hi <;> rfl

theorem arrive_effect {h : Hdr} {body : Option Paired → Handler} (hb : ∀ p (u : State), u.effect i (body p u).1)
    (e : arrive j h body s = .next t) : s.effect i t := by
  obtain rfl := Host.Outcome.next.inj e
  split
  · exact s.effect_self
  · split
    · exact serve_effect h _ hb
    · exact .kept (s.leadsTo_self.link (by simp))

/-- R185: of a request that is handled from its bytes, the step is the one of the request that they spell. -/
theorem handle_effect (h : Hdr) (code : Byte) (l : List Byte) (s : State) :
    (∃ j, decodeRequest h code l = .request j ∧ s.effect j (s.handle h code l)) ∨
      ∀ i, s.effect i (s.handle h code l) := by
  unfold handle
  cases decodeRequest h code l with
  | unknown => exact .inr fun i => .kept ((s.leadsTo_self.pair _).putReply _ _ _)
  | malformed => exact .inr fun i => serve_effect h code fun _ _ => effect_refused
  | malformedWrite => exact .inr fun i => serve_effect h code fun _ _ => askMalformedWrite_effect h
  | request j => exact .inl ⟨j, rfl, serve_effect h code (handlerOf_effect j)⟩

/-- R184: TAKE_ITEM makes a step of the request at the head of the receive buffer, or a step of any command. -/
theorem takeItem_effect (s : State) :
    (∃ j, s.headRequest = some j ∧ s.effect j s.takeItem) ∨ ∀ i, s.effect i s.takeItem := by
  unfold takeItem
  split
  · exact .inr fun i => s.effect_self
  · exact .inr fun i => .kept (s.leadsTo_self.link (List.Subset.refl _))
  · next h code l rest hb =>
    rcases handle_effect h code l { s with dl := { s.dl with buffer := rest } } with ⟨j, hj, k⟩ | k
    · exact .inl ⟨j, by simp [headRequest, hb, hj], k.from rfl rfl⟩
    · exact .inr fun i => (k i).from rfl rfl

/-! ### Events and notices -/

theorem event_effect {f : State → State} (e : event f s = .next t) (hf : s.effect i (f s)) : s.effect i t := by
  obtain rfl := Host.Outcome.next.inj e
  split
  · exact s.effect_self
  · exact hf

theorem event_kept {f : State → State} (e : event f s = .next t) (hf : s.leadsTo s.guard s.guard (f s)) :
    s.effect i t := event_effect e (.kept hf)

/-- A notice taken leaves the protections as they stand. -/
theorem noticed_effect {f : State → State} (e : noticed j f s = .next t) (hf : ∀ u : State, u.effect i (f u)) :
    s.effect i t := event_effect e ((hf (s.takeNotice j)).from rfl rfl)

theorem noticed_kept {f : State → State} (e : noticed j f s = .next t)
    (hf : ∀ u : State, u.leadsTo u.guard u.guard (f u)) : s.effect i t := noticed_effect e fun u => .kept (hf u)

theorem leadsTo.byte {f g : Guard} (h : s.leadsTo f g t) (b : Byte) : s.leadsTo f g (t.byte b) := h.link (by simp)

/-! ### Events and notices with cases of their own -/

theorem execFrameTimeout_effect (e : execFrameTimeout s = .next t) : s.effect i t :=
  event_kept e (s.leadsTo_self.ite (s.leadsTo_self.link (by simp)))

theorem execTransmitStart_effect (e : execTransmitStart s = .next t) : s.effect i t :=
  event_kept e (s.leadsTo_self.link (Link.mem_send (by split <;> simp)))

theorem execResetEnd_effect {lr : Fin 4} {img : Bool} {p : Half} {a b c d : Bool}
    (e : execResetEnd lr img p a b c d s = .next t) : s.effect i t := by
  obtain rfl := Host.Outcome.next.inj e
  exact .kept ((s.leadsTo_self.endReset _ _ _ (by rfl)).ite s.leadsTo_self)

theorem execLimitChange_effect {p : Half} {a b : Bool} (e : execLimitChange p a b s = .next t) : s.effect i t := by
  have h1 := s.leadsTo_self (f := s.guard).curtain
    { s.cc with position := p.toNat, top := a, bottom := b } rfl
  exact event_kept e ((h1.enterCurtain _ _ _).ite h1)

theorem execSettingLineChange_effect {b : Bool} (e : execSettingLineChange b s = .next t) : s.effect i t := by
  have h1 := s.leadsTo_self (f := s.guard).curtain { s.cc with settingClear := b } rfl
  exact event_kept e (((h1.warn _).holdMove _).ite h1)

theorem execDriveReadyChange_effect {b : Bool} (e : execDriveReadyChange b s = .next t) : s.effect i t := by
  have h1 := s.leadsTo_self (f := s.guard).curtain { s.cc with driveReady := b } rfl
  exact event_kept e (((h1.closeMove _).enterCurtain _ _ _).ite h1)

theorem execCurtainSample_effect {p : Half} {a b c : Bool} (e : execCurtainSample p a b c s = .next t) :
    s.effect i t := by
  refine event_kept e ?_
  split
  · split
    · exact s.leadsTo_self
    · exact s.leadsTo_self.takeSample _ _ _ _ _
  · exact s.leadsTo_self

theorem execIntervalDue_effect (e : execIntervalDue s = .next t) : s.effect i t := by
  have h1 : s.leadsTo s.guard s.guard { s with watch := false } := ⟨rfl, s.leadsTo_self.told⟩
  exact event_kept e ((h1.phaseReport _ _ _).ite s.leadsTo_self)

/-- R40 and R41: the iron check is not the phase. -/
theorem takeMovement_phase (p : Performance) (k : MoveKind) (o : MoveOutcome) (b : Bool) (d l : Nat) :
    (p.takeMovement k o b d l).phase = p.phase := by
  unfold Performance.takeMovement
  split
  · split <;> rfl
  · split <;> rfl
  · rfl

theorem execMovementNotice_effect {k : MoveKind} {o : MoveOutcome} {b : Bool} {d l : Nat}
    (e : execMovementNotice k o b d l s = .next t) : s.effect i t :=
  noticed_kept e fun u => u.leadsTo_self.perf _ (takeMovement_phase _ _ _ _ _ _)

theorem execAlertNotice_effect (e : execAlertNotice s = .next t) : s.effect i t :=
  noticed_kept e fun u => u.leadsTo_self.perf _ (by rfl)

theorem execEvacuatedNotice_effect (e : execEvacuatedNotice s = .next t) : s.effect i t :=
  noticed_kept e fun u => u.leadsTo_self.perf _ (by rfl)

theorem execDeskLossNotice_effect (e : execDeskLossNotice s = .next t) : s.effect i t :=
  noticed_kept e fun u => u.leadsTo_self.perf _ (by rfl)

theorem execCallAbandonedNotice_effect (e : execCallAbandonedNotice s = .next t) : s.effect i t :=
  noticed_kept e fun u => u.leadsTo_self.perf _ (by rfl)

theorem execFadeTick_effect (e : execFadeTick s = .next t) : s.effect i t :=
  event_kept e (s.leadsTo_self.setLamps _)

theorem execCycleStart_effect (e : execCycleStart s = .next t) : s.effect i t :=
  event_kept e (s.leadsTo_self.lighting _)

theorem takeClass_effect (h : ∀ f, s.leadsTo f s.guard t) (n : Fin 32) (b : LineBody) (y : Band) :
    s.effect i (t.takeClass n b y) := by
  have h1 := fun f => (h f).setLine n
    { t.al.lines[n] with present := some y, state := t.al.lines[n].state.after y }
  unfold takeClass
  dsimp only
  split
  · exact .kept (h1 _)
  · split
    · exact takeEntry_effect (fun f => ((h1 f).appendEntry _).lineReport _ _ _) _ _
    · exact .kept ((h1 _).lineReport _ _ _)

theorem sampleLine_effect (n : Fin 32) (c : Byte) : s.effect i (s.sampleLine n c) := by
  have h1 := fun f => (s.leadsTo_self (f := f)).setLine n { s.al.lines[n] with last := some c }
  unfold sampleLine
  dsimp only
  split
  · exact .kept (h1 _)
  · split
    · exact .kept (h1 _)
    · split
      · exact takeClass_effect (fun f => (h1 f).setLine _ _) _ _ _
      · exact .kept ((h1 _).setLine _ _)

theorem execIsolationExpiry_effect {n : Fin 32} (e : execIsolationExpiry n s = .next t) : s.effect i t := by
  refine event_kept e ?_
  split
  · exact s.leadsTo_self
  · exact (s.leadsTo_self.expireIsolation _ _ _).ite s.leadsTo_self

theorem evacuate_effect (c : StageChange) : s.effect i (s.evacuate c) :=
  .of (.stage .evacuate (.evacuate _)) (s.leadsTo_self.evacuate c)

theorem execAckTimeout_effect (e : execAckTimeout s = .next t) : s.effect i t := by
  refine event_effect e ?_
  split
  · exact evacuate_effect _
  · exact s.effect_self

theorem execInvestigateTimeout_effect (e : execInvestigateTimeout s = .next t) : s.effect i t := by
  refine event_effect e ?_
  split
  · exact evacuate_effect _
  · exact s.effect_self

theorem execPageLimit_effect (e : execPageLimit s = .next t) : s.effect i t := by
  refine event_kept e ?_
  split
  · exact s.leadsTo_self
  · exact (s.leadsTo_self.endPage _ _ _).scan.ite s.leadsTo_self

theorem execCallDue_effect {id : Byte} (e : execCallDue id s = .next t) : s.effect i t := by
  refine event_kept e ?_
  split
  · exact s.leadsTo_self
  · exact (s.leadsTo_self.setCall _).scan.ite s.leadsTo_self

theorem execCallStale_effect {id : Byte} (e : execCallStale id s = .next t) : s.effect i t := by
  refine event_kept e ?_
  split
  · exact s.leadsTo_self
  · exact (s.leadsTo_self.abandon _ _).scan.ite s.leadsTo_self

theorem execEvacuationMessageStart_effect {n : Nat} (e : execEvacuationMessageStart n s = .next t) : s.effect i t :=
  noticed_kept e (fun u =>
    ((u.leadsTo_self.startEvacuation n).endFlicks.ite (u.leadsTo_self.startEvacuation n)).scan)

theorem execStaffRepeatDue_effect (e : execStaffRepeatDue s = .next t) : s.effect i t := by
  refine event_kept e ?_
  split
  · exact s.leadsTo_self
  · refine leadsTo.ite ((s.leadsTo_self.setStaff _).ite ?_) s.leadsTo_self
    split
    · exact s.leadsTo_self.playStaff _ _
    · exact s.leadsTo_self

theorem execMessageEndSignal_effect {n : Fin 2} (e : execMessageEndSignal n s = .next t) : s.effect i t := by
  refine event_kept e (leadsTo.ite ?_ s.leadsTo_self)
  split
  · exact s.leadsTo_self.stopPlay _
  · split
    · exact (s.leadsTo_self.stopPlay _).messageEnded _
    · exact s.leadsTo_self.stopPlay _
  · exact s.leadsTo_self.playEnded _ _

theorem execPlayLimit_effect {n : Fin 2} (e : execPlayLimit n s = .next t) : s.effect i t := by
  refine event_kept e (leadsTo.ite ?_ s.leadsTo_self)
  split
  · exact s.leadsTo_self.stopPlay _
  · split
    · exact ((s.leadsTo_self.stopPlay _).abandon _ _).scan
    · exact s.leadsTo_self.stopPlay _
  · exact s.leadsTo_self.playEnded _ _

theorem execChimeNoteEnd_effect {n : Fin 2} (e : execChimeNoteEnd n s = .next t) : s.effect i t := by
  refine event_kept e ?_
  split
  · exact s.leadsTo_self
  · split
    · exact (s.leadsTo_self.noteEnded _ _ _).ite s.leadsTo_self
    · exact s.leadsTo_self

theorem execChimeRepeatGapEnd_effect {n : Fin 2} (e : execChimeRepeatGapEnd n s = .next t) : s.effect i t := by
  refine event_kept e ?_
  split
  · exact s.leadsTo_self
  · split
    · exact (s.leadsTo_self.playChime _ _).ite s.leadsTo_self
    · exact s.leadsTo_self

theorem execMessageRepeatGapEnd_effect {n : Fin 2} (e : execMessageRepeatGapEnd n s = .next t) : s.effect i t := by
  refine event_kept e ?_
  split
  · exact s.leadsTo_self
  · split
    · exact (s.leadsTo_self.playCallMessage _ _ _).ite s.leadsTo_self
    · exact s.leadsTo_self

theorem execFlickDipEnd_effect {id : Byte} (e : execFlickDipEnd id s = .next t) : s.effect i t := by
  refine event_kept e ?_
  split
  · exact s.leadsTo_self
  · split
    · exact (s.leadsTo_self.dipEnded _).ite s.leadsTo_self
    · exact s.leadsTo_self

theorem execFlickRepeatEnd_effect {id : Byte} (e : execFlickRepeatEnd id s = .next t) : s.effect i t := by
  refine event_kept e ?_
  split
  · exact s.leadsTo_self
  · split
    · exact (s.leadsTo_self.repeatEnded _).ite s.leadsTo_self
    · exact s.leadsTo_self

theorem execPairedExpiry_effect {n : Station} (e : execPairedExpiry n s = .next t) : s.effect i t := by
  refine event_kept e ?_
  split
  · exact s.leadsTo_self
  · exact (s.leadsTo_self.pair _).ite s.leadsTo_self

theorem execCommitWriteEnd_effect {l : Option (List Byte)} (e : execCommitWriteEnd l s = .next t) : s.effect i t := by
  refine event_kept e ?_
  split
  · exact s.leadsTo_self.endWrite _ _
  · exact s.leadsTo_self

theorem execCommitTimeout_effect (e : execCommitTimeout s = .next t) : s.effect i t := by
  refine event_kept e ?_
  split
  · exact (s.leadsTo_self.failWrite _ _).ite s.leadsTo_self
  · exact s.leadsTo_self

theorem execReloadEnd_effect {l : Option (List Byte)} (e : execReloadEnd l s = .next t) : s.effect i t := by
  refine event_kept e ?_
  split
  · exact s.leadsTo_self.endReload _ _
  · exact s.leadsTo_self

theorem execReloadTimeout_effect (e : execReloadTimeout s = .next t) : s.effect i t := by
  refine event_kept e ?_
  split
  · exact (s.leadsTo_self.endReload _ _).ite s.leadsTo_self
  · exact s.leadsTo_self

/-! ### Events and notices that are one operation of a block -/

theorem execImageLoadEnd_effect {l : Option (List Byte)} (e : execImageLoadEnd l s = .next t) : s.effect i t :=
  event_kept e ((s.leadsTo_self.endLoad _).ite s.leadsTo_self)

theorem execLoadTimeout_effect (e : execLoadTimeout s = .next t) : s.effect i t :=
  event_kept e ((s.leadsTo_self.endLoad _).ite s.leadsTo_self)

theorem execFrameReceived_effect {b : Byte} (e : execFrameReceived b s = .next t) : s.effect i t :=
  event_kept e (s.leadsTo_self.byte b)

theorem execLengthByteInvalid_effect {b : Byte} (e : execLengthByteInvalid b s = .next t) : s.effect i t :=
  event_kept e (s.leadsTo_self.byte b)

theorem execByteReceived_effect {b : Byte} {stop : Bool} (e : execByteReceived b stop s = .next t) : s.effect i t :=
  event_kept e ((s.leadsTo_self.byte b).ite s.leadsTo_self)

theorem execPermitExpiry_effect (e : execPermitExpiry s = .next t) : s.effect i t :=
  event_kept e ((s.leadsTo_self.curtain _ (by rfl)).ite s.leadsTo_self)

theorem execHeldExpiry_effect (e : execHeldExpiry s = .next t) : s.effect i t :=
  event_kept e (((s.leadsTo_self.closeMove _).enterCurtain _ _ _).ite s.leadsTo_self)

theorem execFireTrigger_effect (e : execFireTrigger s = .next t) : s.effect i t :=
  noticed_effect e (fun u => .of (.lock .fire) (u.leadsTo_self.fireClass _))

theorem execLineSample_effect {n : Fin 32} {c : Byte} (e : execLineSample n c s = .next t) : s.effect i t :=
  event_effect e (sampleLine_effect n c)

theorem execKnockWindowEnd_effect (e : execKnockWindowEnd s = .next t) : s.effect i t :=
  event_kept e ((s.leadsTo_self.alarm _ (by rfl) (by rfl)).ite s.leadsTo_self)

theorem execEvacNotice_effect {b : Bool} (e : execEvacNotice b s = .next t) : s.effect i t :=
  noticed_kept e (fun u => u.leadsTo_self.eventStep (setEvac_step _ _))

theorem execFireLockNotice_effect {b : Bool} (e : execFireLockNotice b s = .next t) : s.effect i t :=
  noticed_kept e (fun u => u.leadsTo_self.eventStep (setFireLock_step _ _))

theorem execFlickNotice_effect {n : Fin 48} {b : Bool} (e : execFlickNotice n b s = .next t) : s.effect i t :=
  noticed_kept e (fun u => u.leadsTo_self.eventStep (setFlick_step _ _ _))

theorem execDeskDeadline_effect (e : execDeskDeadline s = .next t) : s.effect i t :=
  event_kept e ((s.leadsTo_self.loseDesk _).ite s.leadsTo_self)

theorem execStageChangeNotice_effect (e : execStageChangeNotice s = .next t) : s.effect i t :=
  noticed_kept e (fun u => (u.leadsTo_self.endFlicks.ite u.leadsTo_self).scan)

theorem execPhaseChangeNotice_effect (e : execPhaseChangeNotice s = .next t) : s.effect i t :=
  noticed_kept e (fun u => u.leadsTo_self.setDefaults.scan)

theorem execEvacuationMessageStop_effect (e : execEvacuationMessageStop s = .next t) : s.effect i t :=
  noticed_kept e (fun u => u.leadsTo_self.stopEvacuation)

theorem execStaffCallStart_effect {z : Nat} {m : Option Nat} (e : execStaffCallStart z m s = .next t) : s.effect i t :=
  noticed_kept e (fun u => (u.leadsTo_self.releaseStaff.startStaff z m).scan)

theorem execStaffCallStop_effect (e : execStaffCallStop s = .next t) : s.effect i t :=
  noticed_kept e (fun u => u.leadsTo_self.stopStaff)

theorem execTableChangeNotice_effect (e : execTableChangeNotice s = .next t) : s.effect i t :=
  noticed_kept e (fun u => (u.leadsTo_self.setLamps _).callTables)

/-! ### Every command -/

/-- What a command does to the protections: it makes a step of itself or of the request that it hands on; or it is
ALARM_QUIET and clears the lock; or it is a reset. A frame of a code outside the table may spell no request, so that
only a well-formed command is known to hand on the request of its step. -/
inductive protects (s : State) (i : Instr) (t : State) : Prop
  | step (j : Instr) (hj : i.wellFormed = true → s.handles i j) (h : s.effect j t)
  | quiet (hi : i = .alarmQuiet) (h : s.leadsTo s.guard.dropLock s.guard.dropLock t)
  | reset (hi : i = .powerOnReset ∨ i = .restartReset) (h : t = s.restart)

theorem protects.own (h : s.effect i t) : s.protects i t := .step i (fun _ => .inl rfl) h

theorem execTakeItem_protects (e : execTakeItem s = .next t) : s.protects .takeItem t := by
  obtain rfl := Host.Outcome.next.inj e
  split
  · exact .own s.effect_self
  · dsimp only
    split
    · rcases takeItem_effect s with ⟨j, hj, k⟩ | k
      · exact .step j (fun _ => .inr ⟨rfl, hj⟩) k
      · exact .own (k _)
    · exact .own s.effect_self

theorem execUnknownRequestCode_protects {h : Hdr} {code : Byte} {l : List Byte}
    (e : execUnknownRequestCode h code l s = .next t) : s.protects (.unknownRequestCode h code l) t := by
  obtain rfl := Host.Outcome.next.inj e
  split
  · exact .own s.effect_self
  · dsimp only
    split
    · rcases handle_effect h code l s with ⟨j, hj, k⟩ | k
      · refine .step j (fun hw => absurd hj ?_) k
        have hc : code.toNat ∉ requestCodes := by
          simp only [Instr.wellFormed, Bool.and_eq_true, Bool.not_eq_true', List.contains_eq_mem,
            decide_eq_false_iff_not] at hw
          exact hw.1
        simp [decodeRequest, hc]
      · exact .own (k _)
    · exact .own (.kept (s.leadsTo_self.link (by simp)))

theorem execAlarmQuiet_protects (e : execAlarmQuiet s = .next t) : s.protects .alarmQuiet t := by
  obtain rfl := Host.Outcome.next.inj e
  split
  · exact .own s.effect_self
  · have h1 : s.leadsTo s.guard.dropLock s.guard (s.takeNotice .alarmQuiet) := ⟨rfl, s.leadsTo_self.told⟩
    exact .quiet rfl h1.alarmQuiet

theorem execRestartReset_protects (e : execRestartReset s = .next t) : s.protects .restartReset t := by
  obtain rfl := Host.Outcome.next.inj e
  split
  · exact .own s.effect_self
  · dsimp only
    split
    · exact .reset (.inr rfl) rfl
    · exact .own s.effect_self

/-- The step of every event and notice. -/
theorem exec_event_protects (hi : headerOf i = none) (e : exec i s = .next t) : s.protects i t := by
  cases i with
  | powerOnReset => exact .reset (.inl rfl) (Host.Outcome.next.inj e).symm
  | restartReset => exact execRestartReset_protects e
  | takeItem => exact execTakeItem_protects e
  | unknownRequestCode h code l => exact execUnknownRequestCode_protects e
  | alarmQuiet => exact execAlarmQuiet_protects e
  | resetEnd lr img p a b c d => exact .own (execResetEnd_effect e)
  | imageLoadEnd l => exact .own (execImageLoadEnd_effect e)
  | loadTimeout => exact .own (execLoadTimeout_effect e)
  | frameReceived b => exact .own (execFrameReceived_effect e)
  | lengthByteInvalid b => exact .own (execLengthByteInvalid_effect e)
  | byteReceived b stop => exact .own (execByteReceived_effect e)
  | frameTimeout => exact .own (execFrameTimeout_effect e)
  | transmitStart => exact .own (execTransmitStart_effect e)
  | intervalDue => exact .own (execIntervalDue_effect e)
  | permitExpiry => exact .own (execPermitExpiry_effect e)
  | heldExpiry => exact .own (execHeldExpiry_effect e)
  | limitChange p a b => exact .own (execLimitChange_effect e)
  | settingLineChange b => exact .own (execSettingLineChange_effect e)
  | driveReadyChange b => exact .own (execDriveReadyChange_effect e)
  | fireTrigger => exact .own (execFireTrigger_effect e)
  | curtainSample p a b c => exact .own (execCurtainSample_effect e)
  | movementNotice k o b d l => exact .own (execMovementNotice_effect e)
  | lineSample n c => exact .own (execLineSample_effect e)
  | isolationExpiry n => exact .own (execIsolationExpiry_effect e)
  | ackTimeout => exact .own (execAckTimeout_effect e)
  | investigateTimeout => exact .own (execInvestigateTimeout_effect e)
  | knockWindowEnd => exact .own (execKnockWindowEnd_effect e)
  | alertNotice => exact .own (execAlertNotice_effect e)
  | evacuatedNotice => exact .own (execEvacuatedNotice_effect e)
  | deskLossNotice => exact .own (execDeskLossNotice_effect e)
  | callAbandonedNotice => exact .own (execCallAbandonedNotice_effect e)
  | fadeTick => exact .own (execFadeTick_effect e)
  | cycleStart => exact .own (execCycleStart_effect e)
  | evacNotice b => exact .own (execEvacNotice_effect e)
  | fireLockNotice b => exact .own (execFireLockNotice_effect e)
  | flickNotice n b => exact .own (execFlickNotice_effect e)
  | deskDeadline => exact .own (execDeskDeadline_effect e)
  | pageLimit => exact .own (execPageLimit_effect e)
  | callDue id => exact .own (execCallDue_effect e)
  | callStale id => exact .own (execCallStale_effect e)
  | stageChangeNotice => exact .own (execStageChangeNotice_effect e)
  | phaseChangeNotice => exact .own (execPhaseChangeNotice_effect e)
  | evacuationMessageStart n => exact .own (execEvacuationMessageStart_effect e)
  | evacuationMessageStop => exact .own (execEvacuationMessageStop_effect e)
  | staffCallStart z m => exact .own (execStaffCallStart_effect e)
  | staffCallStop => exact .own (execStaffCallStop_effect e)
  | staffRepeatDue => exact .own (execStaffRepeatDue_effect e)
  | messageEndSignal n => exact .own (execMessageEndSignal_effect e)
  | playLimit n => exact .own (execPlayLimit_effect e)
  | chimeNoteEnd n => exact .own (execChimeNoteEnd_effect e)
  | chimeRepeatGapEnd n => exact .own (execChimeRepeatGapEnd_effect e)
  | messageRepeatGapEnd n => exact .own (execMessageRepeatGapEnd_effect e)
  | flickDipEnd id => exact .own (execFlickDipEnd_effect e)
  | flickRepeatEnd id => exact .own (execFlickRepeatEnd_effect e)
  | pairedExpiry n => exact .own (execPairedExpiry_effect e)
  | commitWriteEnd l => exact .own (execCommitWriteEnd_effect e)
  | commitTimeout => exact .own (execCommitTimeout_effect e)
  | reloadEnd l => exact .own (execReloadEnd_effect e)
  | reloadTimeout => exact .own (execReloadTimeout_effect e)
  | tableChangeNotice => exact .own (execTableChangeNotice_effect e)
  | _ => cases hi

theorem exec_protects (e : exec i s = .next t) : s.protects i t := by
  cases hi : headerOf i with
  | none => exact exec_event_protects hi e
  | some h =>
    rw [exec_request hi] at e
    exact .own (arrive_effect (handlerOf_effect i) e)

end State
end Sys2Proof.Machine
end

section
/-! The sounders, the fire lock, EVACUATE and the phase: each is left by its own requests only (R28, R60, R106,
R118). -/

namespace Sys2Proof.Machine

section
variable {s t : State} {i : Instr}

theorem reset_sounderLaw : State.reset.sounderLaw := by
  simp [State.sounderLaw, State.reset, Alarm.reset]

/-- R118: the law of the sounders holds after every command. -/
theorem State.protects.keeps_law (h : s.protects i t) (hs : s.sounderLaw) : t.sounderLaw := by
  rw [sounderLaw_iff] at hs ⊢
  cases h with
  | step j hj h => exact h.step.keeps_law hs
  | quiet hi h =>
    rw [h.guard]
    exact hs
  | reset hi h =>
    rw [h]
    exact (sounderLaw_iff _).mp reset_sounderLaw

/-- R107 and R118: every STAGE report that a command adds shows the stage and the sounders as they stand after it. -/
theorem State.protects.told (h : s.protects i t) {q : Queued} (hq : q ∈ t.dl.reports) (hn : q ∉ s.dl.reports)
    {r : StageReport} (hr : q.report = .stage r) : t.guard.shownBy r := by
  cases h with
  | step j hj h => exact h.told q hq hn r hr
  | quiet hi h =>
    rw [h.guard]
    exact h.told q hq hn r hr
  | reset hi h =>
    rw [h] at hq
    exact absurd hq List.not_mem_nil

/-- R60: a set lock keeps its cause, or is cleared by RELEASE_LOCK, the return to QUIET or a reset. -/
theorem State.protects.lock_left (h : s.protects i t) (hw : i.wellFormed = true) {c : LockCause}
    (hc : s.cc.lock = some c) :
    t.cc.lock = some c ∨ (t.cc.lock = none ∧
      ((∃ h, s.handles i (.releaseLock h)) ∨ i = .alarmQuiet ∨ i = .powerOnReset ∨ i = .restartReset)) := by
  cases h with
  | step j hj h =>
    rcases h.step.lock_kept hc with hk | ⟨hk, x, rfl⟩
    · exact .inl hk
    · exact .inr ⟨hk, .inl ⟨x, hj hw⟩⟩
  | quiet hi h => exact .inr ⟨congrArg Guard.lock h.guard, .inr (.inl hi)⟩
  | reset hi h => exact .inr ⟨by rw [h]; rfl, .inr (.inr hi)⟩

/-- R117 and R120: EVACUATE is left by SILENCE, or for QUIET. -/
theorem State.protects.evacuate_left (h : s.protects i t) (hw : i.wellFormed = true) (hs : s.al.stage = .evacuate) :
    t.al.stage = .evacuate ∨ (t.al.stage = .silenced ∧ ∃ h, s.handles i (.silence h)) ∨ t.al.stage = .quiet := by
  cases h with
  | step j hj h =>
    rcases h.step.evacuate_left hs with hk | ⟨hk, x, rfl⟩ | hk
    · exact .inl hk
    · exact .inr (.inl ⟨hk, x, hj hw⟩)
    · exact .inr (.inr hk)
  | quiet hi h => exact .inl ((congrArg Guard.stage h.guard).trans hs)
  | reset hi h => exact .inr (.inr (by rw [h]; rfl))

/-- R120: QUIET is reached by ALARM_RESET and a reset alone. -/
theorem State.protects.quiet_reached (h : s.protects i t) (hw : i.wellFormed = true) (hs : s.al.stage ≠ .quiet)
    (ht : t.al.stage = .quiet) :
    (∃ h, s.handles i (.alarmReset h)) ∨ i = .powerOnReset ∨ i = .restartReset := by
  cases h with
  | step j hj h =>
    obtain ⟨x, rfl⟩ := h.step.quiet_reached hs ht
    exact .inl ⟨x, hj hw⟩
  | quiet hi h => exact absurd ((congrArg Guard.stage h.guard).symm.trans ht) hs
  | reset hi h => exact .inr hi

/-- R28: the phase stays, follows an arrow of a request that the command hands on, or is DARK after a reset. -/
theorem State.protects.phase_left (h : s.protects i t) (hw : i.wellFormed = true) :
    t.perf.phase = s.perf.phase ∨ ((i = .powerOnReset ∨ i = .restartReset) ∧ t.perf.phase = .dark) ∨
      ∃ j, s.handles i j ∧ PhaseArrow j s.al.stage s.perf.phase t.perf.phase := by
  cases h with
  | step j hj h =>
    rcases h.step.phase_kept with hk | hk
    · exact .inl hk
    · exact .inr (.inr ⟨j, hj hw, hk⟩)
  | quiet hi h => exact .inl (congrArg Guard.phase h.guard)
  | reset hi h => exact .inr (.inl ⟨hi, by rw [h]; rfl⟩)

/-- R28: the arrows of the phases, in the words of the statement. -/
theorem PhaseArrow.cases_handles {j : Instr} {x : Stage} {p q : Phase} (h : PhaseArrow j x p q)
    (hj : s.handles i j) :
    ∃ h, (s.handles i (.prepare h) ∧ p = .dark ∧ q = .prepare) ∨
      (s.handles i (.openHouse h) ∧ p = .prepare ∧ q = .houseOpen ∧ x = .quiet) ∨
      (s.handles i (.beginAct h) ∧ (p = .houseOpen ∨ p = .interval) ∧ q = .act ∧ x = .quiet) ∨
      ((∃ m a, s.handles i (.beginInterval h m a)) ∧ p = .act ∧ q = .interval ∧ x = .quiet) ∨
      (s.handles i (.closeHouse h) ∧ (p = .houseOpen ∨ p = .act ∨ p = .interval) ∧ q = .showDown) ∨
      (s.handles i (.goDark h) ∧ (p = .showDown ∨ p = .prepare) ∧ q = .dark ∧ x = .quiet) := by
  cases h with
  | prepare h hi => exact ⟨h, .inl ⟨hi ▸ hj, rfl, rfl⟩⟩
  | openHouse h hi hx => exact ⟨h, .inr (.inl ⟨hi ▸ hj, rfl, rfl, hx⟩)⟩
  | beginAct h hi hx p hp => exact ⟨h, .inr (.inr (.inl ⟨hi ▸ hj, hp, rfl, hx⟩))⟩
  | beginInterval h m a hi hx => exact ⟨h, .inr (.inr (.inr (.inl ⟨⟨m, a, hi ▸ hj⟩, rfl, rfl, hx⟩)))⟩
  | closeHouse h hi p hp => exact ⟨h, .inr (.inr (.inr (.inr (.inl ⟨hi ▸ hj, hp, rfl⟩))))⟩
  | goDark h hi hx p hp => exact ⟨h, .inr (.inr (.inr (.inr (.inr ⟨hi ▸ hj, hp, rfl, hx⟩))))⟩

/-- R118: the four outputs are one, off in reset and else as the field says. -/
theorem sounderOn_follows (s : State) (k j : Fin 4) :
    s.sounderOn k = s.sounderOn j ∧ (s.inReset = true → s.sounderOn k = false) ∧
      (s.inReset = false → s.sounderOn k = s.al.sounders) :=
  ⟨rfl, fun h => by simp [State.sounderOn, h], fun h => by simp [State.sounderOn, h]⟩

end

/-- Settles O54: every command makes a step of the protections that it or the request it hands on allows
(`exec_protects`), and each clause is what those steps have in common. -/
theorem protectionsAreLeftByRequest : Obligations.ProtectionsAreLeftByRequest := by
  unfold Obligations.ProtectionsAreLeftByRequest
  refine ⟨sounderOn_follows, reset_sounderLaw, rfl, fun s t i hs e => ?_, fun s t i c hw hc e => ?_,
    fun s t i hw e => ?_, fun s t i hw e => ?_⟩
  · have h := State.exec_protects e
    exact ⟨h.keeps_law hs, fun q hq hn r hr => h.told hq hn hr⟩
  · exact (State.exec_protects e).lock_left hw hc
  · have h := State.exec_protects e
    exact ⟨h.evacuate_left hw, h.quiet_reached hw⟩
  · rcases (State.exec_protects e).phase_left hw with hp | hp | ⟨j, hj, hp⟩
    · exact .inl hp
    · exact .inr (.inl hp)
    · exact .inr (.inr (hp.cases_handles hj))

end Sys2Proof.Machine
end

section
/-! SUPPORT. The CRC, bit by bit (R182). -/

namespace Sys2Proof.Machine

/-- R182: a bit of a frame enters the CRC register: the polynomial is added when it and the bit that leaves differ. -/
def crcFeed (r : Half) (bit : Bool) : Half :=
  (r <<< 1) ^^^ (if r.msb = bit then 0#16 else 1#16 <<< 12 ||| 1#16 <<< 5 ||| 1#16)

/-- R182: the bits of a byte, most significant first. -/
def bitsOf (b : Byte) : List Bool := (List.range 8).map fun k => b.getLsbD (7 - k)

/-- Bits that wait in the register itself: the top one is fed, the others move up. -/
theorem crcBit_xor (r x : Half) : crcBit (r ^^^ x) = crcFeed r x.msb ^^^ (x <<< 1) := by
  have hpoly : (1#16 <<< 12 ||| 1#16 <<< 5 ||| 1#16) = 0x1021#16 := by decide
  unfold crcBit crcFeed
  rw [BitVec.msb_xor, BitVec.shiftLeft_xor_distrib, hpoly]
  cases r.msb <;> cases x.msb <;> simp [BitVec.xor_assoc, BitVec.xor_comm (x <<< 1)]

theorem crcBit_iterate_xor (r x : Half) (n : Nat) :
    crcBit^[n] (r ^^^ x) = ((List.range n).map fun k => (x <<< k).msb).foldl crcFeed r ^^^ (x <<< n) := by
  induction n with
  | zero => simp
  | succ n ih =>
    rw [Function.iterate_succ_apply', ih, crcBit_xor, List.range_succ, BitVec.shiftLeft_add]
    simp

/-- A byte in the high half of the register: its bits in the order in which they reach the top. -/
theorem msb_highByte_shiftLeft (b : Byte) {k : Nat} (hk : k < 8) :
    (b.zeroExtend 16 <<< 8 <<< k).msb = b.getLsbD (7 - k) := by
  rw [BitVec.msb_eq_getLsbD_last, BitVec.getLsbD_shiftLeft, BitVec.getLsbD_shiftLeft, BitVec.getLsbD_setWidth]
  have hindex : 16 - 1 - k - 8 = 7 - k := by omega
  have hin : ¬ 16 - 1 < k ∧ ¬ 16 - 1 - k < 8 ∧ 16 - 1 - k < 16 ∧ 7 - k < 16 := by omega
  simp only [hindex, hin, decide_true, decide_false, Bool.not_false, Bool.true_and]
  rfl

theorem crcByte_eq_foldl_crcFeed (r : Half) (b : Byte) : crcByte r b = (bitsOf b).foldl crcFeed r := by
  have hbits : ((List.range 8).map fun k => (b.zeroExtend 16 <<< 8 <<< k).msb) = bitsOf b :=
    List.map_congr_left fun k hk => msb_highByte_shiftLeft b (List.mem_range.mp hk)
  have hout : b.zeroExtend 16 <<< 8 <<< 8 = 0#16 := by
    rw [← BitVec.shiftLeft_add]
    exact BitVec.shiftLeft_eq_zero (by decide)
  calc crcByte r b = crcBit^[8] (r ^^^ (b.zeroExtend 16 <<< 8)) := rfl
    _ = (bitsOf b).foldl crcFeed r := by rw [crcBit_iterate_xor, hbits, hout, BitVec.xor_zero]

theorem crc16_eq_foldl_crcFeed (l : List Byte) : crc16 l = (l.flatMap bitsOf).foldl crcFeed 0xFFFF#16 := by
  rw [List.foldl_flatMap]
  exact congrArg (fun f => l.foldl f 0xFFFF#16) (funext₂ crcByte_eq_foldl_crcFeed)

/-- R182: the check value of the nine digits. -/
theorem crc16_nineDigits : crc16 [0x31, 0x32, 0x33, 0x34, 0x35, 0x36, 0x37, 0x38, 0x39] = 0x29B1#16 := by
  decide +kernel

end Sys2Proof.Machine
end

section
/-! SUPPORT. The frames that are sent (R181, R182, R189). -/

namespace Sys2Proof.Machine

/-- R181: a frame on the line is the frame of some body. -/
def isFrame (l : List Byte) : Prop := ∃ body, l = frameOf body

theorem halfBytes_eq (x : Half) : halfBytes x = [x.extractLsb' 8 8, x.extractLsb' 0 8] := by
  have hhigh : BitVec.ofNat 8 (x.toNat / 256) = x.extractLsb' 8 8 := by
    apply BitVec.eq_of_toNat_eq
    simp [Nat.shiftRight_eq_div_pow]
  have hlow : BitVec.ofNat 8 x.toNat = x.extractLsb' 0 8 := by
    apply BitVec.eq_of_toNat_eq
    simp
  simp only [halfBytes, be2, hhigh, hlow]

theorem highByte_append_lowByte (x : Half) : x.extractLsb' 8 8 ++ x.extractLsb' 0 8 = x := by
  rw [BitVec.extractLsb'_append_extractLsb'_eq_extractLsb' (by rfl)]
  exact BitVec.extractLsb'_eq_self

theorem halfBytes_append (a b : Byte) : halfBytes (a ++ b) = [a, b] := by
  rw [halfBytes_eq, BitVec.extractLsb'_append_eq_left, BitVec.extractLsb'_append_eq_right]

/-- R187: two bytes stand for one two-byte field, high byte first. -/
theorem eq_halfBytes_iff (a b : Byte) (x : Half) : [a, b] = halfBytes x ↔ a ++ b = x := by
  constructor
  · intro h
    rw [halfBytes_eq, List.cons.injEq, List.cons.injEq] at h
    obtain ⟨rfl, rfl, -⟩ := h
    exact highByte_append_lowByte x
  · rintro rfl
    exact (halfBytes_append a b).symm

theorem frameOf_eq (body : List Byte) :
    frameOf body = 0xC3#8 :: BitVec.ofNat 8 body.length :: body ++
      [(crc16 (BitVec.ofNat 8 body.length :: body)).extractLsb' 8 8,
        (crc16 (BitVec.ofNat 8 body.length :: body)).extractLsb' 0 8] := by
  rw [← halfBytes_eq]
  rfl

theorem Outgoing.frame_isFrame (o : Outgoing) : isFrame o.frame := by
  cases o with
  | reply r part => exact ⟨_, rfl⟩
  | error e => exact ⟨_, rfl⟩

/-- R189: the transmitter starts nothing, or a frame. -/
theorem Link.send_line (d : Link) (waiting : List Queued) :
    (d.send waiting).line = d.line ∨ ∃ l, (d.send waiting).line = some l ∧ isFrame l := by
  have hslot (x : Slot) : ∃ l, (d.sendSlot x).line = some l ∧ isFrame l := ⟨_, rfl, x.what.frame_isFrame⟩
  have hreport (q : Queued) (rest : List Queued) : ∃ l, (d.sendReport q rest).line = some l ∧ isFrame l :=
    ⟨_, rfl, _, rfl⟩
  unfold Link.send
  split
  case h_1 => exact .inl rfl
  case h_2 => exact .inr (hslot _)
  case h_3 =>
    split
    · exact .inl rfl
    · exact .inr (hreport _ _)
  case h_4 =>
    split
    · exact .inr (hslot _)
    · exact .inr (hreport _ _)

/-- R182 and R189: what TRANSMIT_START puts on the line is a frame. -/
theorem exec_transmitStart_line {s t : State} (e : exec .transmitStart s = .next t) (hl : t.dl.line ≠ s.dl.line) :
    ∃ l, t.dl.line = some l ∧ isFrame l := by
  obtain rfl : (if s.inReset then s else _) = t := Host.Outcome.next.inj e
  split at hl
  · exact absurd rfl hl
  · rename_i hr
    rw [if_neg hr]
    exact (s.dl.send_line _).resolve_left hl

end Sys2Proof.Machine
end

section
/-! SUPPORT. The bytes of a frame at the receiver (R182, R183). -/

namespace Sys2Proof.Machine

theorem exec_byteReceived {s : State} (hr : s.inReset = false) (b : Byte) :
    exec (.byteReceived b true) s = .next { s with dl := s.dl.byte b } := event_runs _ hr

/-- R183: the link with its receiver in a state of its own, the length byte and the bytes it has taken. -/
def Link.receiving (d : Link) (x : RxState) (n : Nat) (l : List Byte) : Link := { d with rx := x, n := n, bytes := l }

section
variable {d : Link} {n : Nat} {l : List Byte} (b : Byte)

theorem Link.byte_hunt (h : d.rx = .hunt) : d.byte 0xC3#8 = d.receiving .length 0 [] := by
  simp [Link.byte, Link.receiving, h]

theorem Link.byte_length (h4 : 4 ≤ b.toNat) (h240 : b.toNat ≤ 240) :
    (d.receiving .length n l).byte b = d.receiving .body b.toNat [b] :=
  if_pos ⟨h4, h240⟩

theorem Link.byte_body :
    (d.receiving .body n l).byte b = d.receiving (if n ≤ l.length then .check else .body) n (l ++ [b]) := rfl

theorem Link.byte_firstCrc (h : l.length < n + 2) :
    (d.receiving .check n l).byte b = d.receiving .check n (l ++ [b]) := if_pos h

theorem Link.byte_lastCrc (h : d.rx = .check) (hn : d.n + 2 ≤ d.bytes.length) :
    d.byte b = d.hunt.addItem (completedItem (d.bytes ++ [b])) := by
  simp [Link.byte, Link.checkByte, h, Nat.not_lt.mpr hn]

end

/-- R183: the bytes that are left of the body take the receiver to CHECK. -/
theorem Link.foldl_byte_body (d : Link) {n : Nat} {l body : List Byte} (hne : body ≠ [])
    (hn : l.length + body.length = n + 1) :
    body.foldl Link.byte (d.receiving .body n l) = d.receiving .check n (l ++ body) := by
  induction body generalizing l with
  | nil => exact absurd rfl hne
  | cons b rest ih =>
    rw [List.length_cons] at hn
    rw [List.foldl_cons, Link.byte_body]
    cases rest with
    | nil =>
      have hlast : n ≤ l.length := by
        rw [List.length_nil] at hn
        omega
      rw [if_pos hlast]
      rfl
    | cons c rest =>
      have hmore : ¬ n ≤ l.length := by
        rw [List.length_cons] at hn
        omega
      have hleft : (l ++ [b]).length + (c :: rest).length = n + 1 := by
        rw [List.length_append, List.length_singleton]
        omega
      rw [if_neg hmore, ih (List.cons_ne_nil _ _) hleft, List.append_assoc]
      rfl

theorem toNat_lengthByte {body : List Byte} (h : body.length ≤ 240) :
    (BitVec.ofNat 8 body.length).toNat = body.length := by
  rw [BitVec.toNat_ofNat]
  exact Nat.mod_eq_of_lt (by omega)

/-- R183: from HUNT, the bytes of a frame of a legal length leave the receiver in HUNT with the completed item. -/
theorem Link.foldl_byte_frame {d : Link} (hrx : d.rx = .hunt) {body : List Byte} (h4 : 4 ≤ body.length)
    (h240 : body.length ≤ 240) (high low : Byte) :
    (0xC3#8 :: BitVec.ofNat 8 body.length :: body ++ [high, low]).foldl Link.byte d =
      d.hunt.addItem (completedItem (BitVec.ofNat 8 body.length :: body ++ [high, low])) := by
  have hn := toNat_lengthByte h240
  have hne : body ≠ [] := List.ne_nil_of_length_pos (by omega)
  simp only [List.cons_append, List.foldl_cons, List.foldl_append, List.foldl_nil]
  rw [Link.byte_hunt hrx, Link.byte_length _ (hn.symm ▸ h4) (hn.symm ▸ h240), hn,
    Link.foldl_byte_body d hne (Nat.add_comm _ _), List.singleton_append, Link.byte_firstCrc _ (Nat.lt_succ_self _),
    Link.byte_lastCrc _ rfl (by simp [Link.receiving])]
  simp [Link.receiving, Link.hunt]

/-- R183: the checks of a completed frame that come after that of its CRC. -/
def crcPassedItem (l : List Byte) : RxItem :=
  let n := (l.getD 0 0).toNat
  if (l.getD 1 0).extractLsb' 4 4 ≠ 0 then frameError .kind l
  else if n ≠ (l.getD 4 0).toNat + 4 then frameError .length l
  else .request { station := nibble (l.getD 1 0), tag := l.getD 2 0 } (l.getD 3 0) (sliceOf l 5 (n - 4))

theorem crcPassedItem_reason_ne_crc {l : List Byte} {e : FrameError} (h : crcPassedItem l = .error e) :
    e.reason ≠ .crc := by
  dsimp only [crcPassedItem] at h
  split at h
  · obtain rfl := RxItem.error.inj h
    simp
  · split at h
    · obtain rfl := RxItem.error.inj h
      simp
    · cases h

section
variable {checked : List Byte} (hn : checked.length = (checked.getD 0 0).toNat + 1) (high low : Byte)
include hn

/-- R183: the test of the CRC of a completed frame. -/
theorem sliceOf_crc_eq_iff :
    (let l := checked ++ [high, low]
     let n := (l.getD 0 0).toNat
     sliceOf l (n + 1) 2 = halfBytes (crc16 (l.take (n + 1)))) ↔ high ++ low = crc16 checked := by
  have hlength : ((checked ++ [high, low]).getD 0 0).toNat + 1 = checked.length := by
    rw [List.getD_append _ _ _ _ (by omega), hn]
  simp only [hlength, sliceOf, List.drop_left, List.take_left, ← eq_halfBytes_iff]
  rfl

theorem completedItem_of_crc_ne (h : high ++ low ≠ crc16 checked) :
    completedItem (checked ++ [high, low]) = frameError .crc (checked ++ [high, low]) :=
  if_pos (mt (sliceOf_crc_eq_iff hn high low).mp h)

theorem completedItem_of_crc_eq (h : high ++ low = crc16 checked) :
    completedItem (checked ++ [high, low]) = crcPassedItem (checked ++ [high, low]) :=
  if_neg (not_not_intro ((sliceOf_crc_eq_iff hn high low).mpr h))

/-- R183: a completed frame is a CRC frame error exactly when its last two bytes are not the CRC of those before. -/
theorem completedItem_crcError_iff :
    (∃ e, completedItem (checked ++ [high, low]) = .error e ∧ e.reason = .crc) ↔
      high ++ low ≠ crc16 checked := by
  by_cases h : high ++ low = crc16 checked
  · rw [completedItem_of_crc_eq hn high low h]
    exact iff_of_false (fun ⟨_, he, hcrc⟩ => crcPassedItem_reason_ne_crc he hcrc) (not_not_intro h)
  · rw [completedItem_of_crc_ne hn high low h]
    exact iff_of_true ⟨_, rfl, rfl⟩ h

end

/-- R181: the body of a request frame. -/
def requestBody (h : Hdr) (code : Byte) (params : List Byte) : List Byte :=
  be1 h.station.val ++ [h.tag, code] ++ be1 params.length ++ params

theorem nibble_ofNat (n : Station) : nibble (BitVec.ofNat 8 n.val) = n := by
  revert n
  decide

theorem kind_ofNat (n : Station) : (BitVec.ofNat 8 n.val).extractLsb' 4 4 = 0#4 := by
  revert n
  decide

theorem requestBody_eq (h : Hdr) (code : Byte) (params : List Byte) :
    requestBody h code params =
      BitVec.ofNat 8 h.station.val :: h.tag :: code :: BitVec.ofNat 8 params.length :: params := rfl

theorem requestBody_length (h : Hdr) (code : Byte) (params : List Byte) :
    (requestBody h code params).length = params.length + 4 := rfl

theorem toNat_requestLength (h : Hdr) (code : Byte) {params : List Byte} (hp : params.length ≤ 236) :
    (BitVec.ofNat 8 (requestBody h code params).length).toNat = params.length + 4 :=
  toNat_lengthByte (body := requestBody h code params) (by rw [requestBody_length]; omega)

/-- R181 and R183: a request frame passes the checks after that of its CRC, whatever its last two bytes are. -/
theorem crcPassedItem_request (h : Hdr) (code : Byte) {params : List Byte} (hp : params.length ≤ 236)
    (crc : List Byte) :
    crcPassedItem (BitVec.ofNat 8 (requestBody h code params).length :: requestBody h code params ++ crc) =
      .request h code params := by
  have hlength := toNat_requestLength h code hp
  have hcount : (BitVec.ofNat 8 params.length).toNat = params.length := toNat_lengthByte (by omega)
  have hkind := kind_ofNat h.station
  refine (if_neg (not_not_intro hkind)).trans
    ((if_neg (not_not_intro (hlength.trans (congrArg (· + 4) hcount.symm)))).trans ?_)
  change RxItem.request ⟨nibble (BitVec.ofNat 8 h.station.val), h.tag⟩ code
    (sliceOf _ 5 ((BitVec.ofNat 8 (requestBody h code params).length).toNat - 4)) = _
  rw [nibble_ofNat, hlength]
  exact congrArg (RxItem.request h code) List.take_left

/-- R183: the frame error of a request frame is the station's, with its tag. -/
theorem frameError_request (reason : FrameReason) (h : Hdr) (code n : Byte) (params crc : List Byte) :
    frameError reason (n :: requestBody h code params ++ crc) =
      .error { reason, station := h.station, tag := h.tag, count := params.length + 5 + crc.length } := by
  change RxItem.error ⟨reason, nibble (BitVec.ofNat 8 h.station.val), h.tag, _⟩ = _
  rw [nibble_ofNat, List.length_append]
  rfl

/-- R181 and R183: the item of a whole request frame, by its CRC. -/
theorem completedItem_request (h : Hdr) (code : Byte) {params : List Byte} (hp : params.length ≤ 236) (crc : Half) :
    let checked := BitVec.ofNat 8 (requestBody h code params).length :: requestBody h code params
    completedItem (checked ++ halfBytes crc) =
      if crc = crc16 checked then .request h code params
      else .error { reason := .crc, station := h.station, tag := h.tag, count := params.length + 7 } := by
  intro checked
  have hn : checked.length = (checked.getD 0 0).toNat + 1 :=
    (congrArg (· + 1) (toNat_requestLength h code hp)).symm
  have hcrc := highByte_append_lowByte crc
  rw [halfBytes_eq]
  split
  case isTrue hc =>
    rw [completedItem_of_crc_eq hn _ _ (hcrc.trans hc)]
    exact crcPassedItem_request h code hp _
  case isFalse hc =>
    rw [completedItem_of_crc_ne hn _ _ (hcrc.symm ▸ hc)]
    exact frameError_request .crc h code _ params _

end Sys2Proof.Machine
end

section
/-! The CRC of every frame, and the request that a whole frame leaves (R182). -/

namespace Sys2Proof.Machine

/-- R182: the last byte of a frame being received adds its item. -/
theorem exec_lastByte {s : State} {checked : List Byte} {high : Byte} (low : Byte) (hr : s.inReset = false)
    (hrx : s.dl.rx = .check) (hn : s.dl.n + 1 = checked.length) (hb : s.dl.bytes = checked ++ [high]) :
    exec (.byteReceived low true) s =
      .next { s with dl := s.dl.hunt.addItem (completedItem (checked ++ [high, low])) } := by
  rw [exec_byteReceived hr, Link.byte_lastCrc low hrx (by rw [hb, List.length_append, ← hn]; rfl), hb,
    List.append_assoc]
  rfl

/-- Settles O6: the CRC by `crc16_eq_foldl_crcFeed`, the frames sent by `frameOf_eq` and `exec_transmitStart_line`, the
last byte of a frame by `exec_lastByte`, a whole frame by `Link.foldl_byte_frame` and `completedItem_request`. -/
theorem wholeFrameIsReceived : Obligations.WholeFrameIsReceived := by
  unfold Obligations.WholeFrameIsReceived
  refine ⟨crc16_eq_foldl_crcFeed, crc16_nineDigits,
    ⟨fun _ _ => ⟨_, frameOf_eq _⟩, fun _ _ _ => ⟨_, frameOf_eq _⟩, fun _ => ⟨_, frameOf_eq _⟩, ?_⟩, ?_, ?_⟩
  · intro s t e hl l ht
    obtain ⟨l', hline, body, rfl⟩ := exec_transmitStart_line e hl
    obtain rfl := Option.mem_unique ht hline
    exact ⟨body, frameOf_eq body⟩
  · intro s body high low _ h240 checked hr hrx hn hb
    refine ⟨_, exec_lastByte low hr hrx (by rw [hn]; rfl) hb, completedItem_crcError_iff ?_ high low⟩
    exact (congrArg (· + 1) (toNat_lengthByte h240)).symm
  · intro d h code params crc hrx hp body checked
    have hlen := requestBody_length h code params
    have hframe := Link.foldl_byte_frame hrx (body := requestBody h code params) (by omega) (by omega)
      (crc.extractLsb' 8 8) (crc.extractLsb' 0 8)
    rw [← halfBytes_eq] at hframe
    exact hframe.trans ((congrArg d.hunt.addItem (completedItem_request h code hp crc)).trans (apply_ite _ _ _ _))

end Sys2Proof.Machine
end
